-- ==== Sys2Proof/Word.lean ====
section
/-! DEFINITION. The words of the machine: bytes and byte strings (00_scope R11). -/

namespace Sys2Proof

/-- A byte: bit 7 is the most significant, bit 0 the least (00_scope R11). -/
abbrev Byte := BitVec 8

/-- A byte sequence `B[0] … B[n-1]` (00_scope R11). PAN ids and addresses are such sequences, in wire
order; BLMAC never reads one as a number (20_memory R67). -/
abbrev Bytes := List Byte

end Sys2Proof
end

