-- ==== Sys2Proof/Config.lean ====
section
/-! DEFINITION. The configuration of a BLMAC instance (00_scope R8, R9, R10) and the free values: what the
spec leaves to the environment or to nobody. -/

namespace Sys2Proof

/-- The node role, fixed at construction (00_scope R3, 60_exceptions R291). -/
inductive Role where
  | ep
  | gw
  deriving DecidableEq, Repr

/-- The configuration record (00_scope R8). `ptrW`, the bytes a host pointer takes in a command word, is the
model's own parameter for R105's "platform's width" (DESIGN CHOICE, log 11). -/
structure Config where
  role : Role
  panW : Nat
  addrW : Nat
  bcast : Byte
  maxFrame : Nat
  linkreqCode : BitVec 2
  seqInit : Byte
  rxtoEn : Bool
  rxtoTicks : Nat
  ptrW : Nat
  deriving DecidableEq, Repr

/-- Bytes of the header: PAN id, destination, source, control, sequence (00_scope R9). -/
def Config.hdrLen (c : Config) : Nat := c.panW + 2 * c.addrW + 2

/-- Largest payload (00_scope R9). -/
def Config.maxPayload (c : Config) : Nat := c.maxFrame - c.hdrLen

/-- Offset of the destination address (00_scope R9). -/
def Config.offDst (c : Config) : Nat := c.panW

/-- Offset of the source address (00_scope R9). -/
def Config.offSrc (c : Config) : Nat := c.panW + c.addrW

/-- Offset of the control byte (00_scope R9). -/
def Config.offCtl (c : Config) : Nat := c.panW + 2 * c.addrW

/-- Offset of the sequence byte (00_scope R9). -/
def Config.offSeq (c : Config) : Nat := c.offCtl + 1

/-- The ranges of 00_scope R8. A configuration that breaks one "is not a BLMAC" (60_exceptions R277,
93_implementation_defined U25). -/
def Config.valid (c : Config) : Bool :=
  decide (1 ≤ c.panW) && decide (1 ≤ c.addrW) && decide (c.hdrLen ≤ c.maxFrame) &&
  decide (c.maxFrame ≤ 255) && decide (c.linkreqCode ≠ 0#2) &&
  (!c.rxtoEn || decide (c.role = .ep)) && decide (1 ≤ c.rxtoTicks) && decide (c.rxtoTicks ≤ 65535)

/-- `ROLE = EP and RXTO_EN`: the variant has `RXTO` and `RXTO_ACT` (10_state R34). -/
def Config.hasRxto (c : Config) : Bool := decide (c.role = .ep) && c.rxtoEn

/-- `bcast(w)`: `w` bytes each equal to `BCAST` (00_scope R11). -/
def Config.bcastOf (c : Config) (w : Nat) : Bytes := List.replicate w c.bcast

/-- Reference configuration `CFG1` (00_scope R10), here as an End Point with the receive timeout; role and
`RXTO_EN` are "stated per vector", so this pair is a DESIGN CHOICE (log 1). -/
def Config.cfg1 : Config :=
  { role := .ep, panW := 1, addrW := 1, bcast := 0x00#8, maxFrame := 20, linkreqCode := 0b01#2,
    seqInit := 0x00#8, rxtoEn := true, rxtoTicks := 3, ptrW := 2 }

/-- `CFG1` as a Gateway. -/
def Config.cfg1Gw : Config := { Config.cfg1 with role := .gw, rxtoEn := false }

/-- Reference configuration `CFG2` (00_scope R10) as an End Point without the timeout. -/
def Config.cfg2 : Config :=
  { Config.cfg1 with panW := 2, addrW := 2, maxFrame := 24, rxtoEn := false }

/-- `CFG2` as a Gateway. -/
def Config.cfg2Gw : Config := { Config.cfg2 with role := .gw }

/-- FREE VALUE: the status byte of the edge entry point, "any value" (93_implementation_defined U6). -/
opaque Config.edgeStatus : Nat → Byte

/-- FREE VALUE: what a byte of host memory holds that the model was not told of: the first argument is the
fresh counter of the read, the second the address (20_memory R66, log 10). -/
opaque Config.hostByte : Nat → Nat → Byte

end Sys2Proof
end

