-- ==== Sys2Proof/Syntax.lean ====
section
/-! DEFINITION. The operations of BLMAC: one constructor per row of spec/opcode_table.json
(30_encoding R104 and R106). -/

namespace Sys2Proof

/-- The `type` operand of a send: `{DATA, LINKREQ}` (43_scheduler_fsm R182). -/
inductive FrameType where
  | data
  | linkReq
  deriving DecidableEq, Repr

/-- The operations. A PAN id, an address, a payload and an envelope are byte strings; a host pointer is a
natural ("opaque", 10_state R30). In the frame classes `rsv` is the ignored bits 5:2 of the control byte and
`drq` its bit 1 (30_encoding R106). -/
inductive Instr where
  -- host commands, Addressing Registry (30_encoding R104)
  | init (pan addr : Bytes) (hook lrcb tocb : Bool)
  | isbcast (a : Bytes)
  | linkexists
  | linkestablish (p r : Bytes)
  | linkdestroy
  | compare (a b : Bytes)
  -- host commands, scheduler
  | listen
  | send (ty : FrameType) (drq : Bool) (payload : Bytes)
  | setdrsp (ptr : Nat) (len : Byte)
  | busy
  -- status queries
  | getpan
  | getlink
  | getlastsrc
  | getlastseq
  | getrssi
  | getlqi
  | getcrc
  -- façade
  | fInit (pan addr : Bytes) (hook lrcb tocb : Bool)
  | connect (payload : Bytes)
  | disconnect
  | simpletransfer (payload : Bytes)
  | transfer (payload : Bytes)
  | loaddataresponse (ptr : Nat) (len : Byte)
  | fBusy
  -- interrupt events
  | edgeTx
  | edgeRx (env : Bytes)
  | tick
  -- micro-operations
  | frameBuild (ty : FrameType) (drq : Bool) (payload : Bytes)
  | validateEp
  | validateGw
  | dispatchData
  | dispatchLinkRequest
  | frameIdle
  | timeoutHandler
  | uSend (ty : FrameType) (drq : Bool) (payload : Bytes)
  | armReceive
  | rxCheck (n : Byte) (crcOk : Bool)
  | classify
  -- frame classes of a received control byte
  | fDataEp (rsv : BitVec 4) (drq : Bool)
  | fDataGw (rsv : BitVec 4) (drq : Bool)
  | fLinkreqEp (rsv : BitVec 4) (drq : Bool)
  | fLinkreqGw (rsv : BitVec 4) (drq : Bool)
  | fReserved (ty : BitVec 2) (rsv : BitVec 4) (drq mode : Bool)
  deriving DecidableEq, Repr

end Sys2Proof
end

