-- ==== Sys2Proof/WellFormed.lean ====
section
/-! DEFINITION. Which operations are well formed: the operand ranges the spec states (30_encoding R107,
60_exceptions R277 `U_BAD_OPERAND`), which are inputs, and which fit a command word (R105). -/

namespace Sys2Proof

/-- Every operand is inside its stated range (30_encoding R107; ranges of R104, R121, R130, R182): a PAN id
has `PAN_W` bytes, an address `ADDR_W`; `ISBCAST` has at least one byte, `COMPARE` two sequences of one length,
at least 1; a payload has at most 255 bytes; a reserved frame class has a reserved type (R98). -/
def Instr.wellFormed (c : Config) : Instr → Bool
  | .init pan addr _ _ _ => decide (pan.length = c.panW) && decide (addr.length = c.addrW)
  | .isbcast a => decide (1 ≤ a.length)
  | .linkexists => true
  | .linkestablish p r => decide (p.length = c.panW) && decide (r.length = c.addrW)
  | .linkdestroy => true
  | .compare a b => decide (1 ≤ a.length) && decide (a.length = b.length)
  | .listen => true
  | .send _ _ p => decide (p.length ≤ 255)
  | .setdrsp _ _ => true
  | .busy => true
  | .getpan => true
  | .getlink => true
  | .getlastsrc => true
  | .getlastseq => true
  | .getrssi => true
  | .getlqi => true
  | .getcrc => true
  | .fInit pan addr _ _ _ => decide (pan.length = c.panW) && decide (addr.length = c.addrW)
  | .connect p => decide (p.length ≤ 255)
  | .disconnect => true
  | .simpletransfer p => decide (p.length ≤ 255)
  | .transfer p => decide (p.length ≤ 255)
  | .loaddataresponse _ _ => true
  | .fBusy => true
  | .edgeTx => true
  | .edgeRx _ => true
  | .tick => true
  | .frameBuild _ _ p => decide (p.length ≤ 255)
  | .validateEp => true
  | .validateGw => true
  | .dispatchData => true
  | .dispatchLinkRequest => true
  | .frameIdle => true
  | .timeoutHandler => true
  | .uSend _ _ p => decide (p.length ≤ 255)
  | .armReceive => true
  | .rxCheck _ _ => true
  | .classify => true
  | .fDataEp _ _ => true
  | .fDataGw _ _ => true
  | .fLinkreqEp _ _ => true
  | .fLinkreqGw _ _ => true
  | .fReserved ty _ _ _ => decide (ty ≠ 0#2) && decide (ty ≠ c.linkreqCode)

/-- The operation is one of 00_scope R15's inputs: a host command, a façade operation or an event. "A `UOP`
code is never accepted as an input" (30_encoding R107), and a frame class is a control byte, not a command. -/
def Instr.isInput : Instr → Bool
  | .init _ _ _ _ _ | .isbcast _ | .linkexists | .linkestablish _ _ | .linkdestroy | .compare _ _
  | .listen | .send _ _ _ | .setdrsp _ _ | .busy | .getpan | .getlink | .getlastsrc | .getlastseq
  | .getrssi | .getlqi | .getcrc | .fInit _ _ _ _ _ | .connect _ | .disconnect | .simpletransfer _
  | .transfer _ | .loaddataresponse _ _ | .fBusy | .edgeTx | .edgeRx _ | .tick => true
  | .frameBuild _ _ _ | .validateEp | .validateGw | .dispatchData | .dispatchLinkRequest | .frameIdle
  | .timeoutHandler | .uSend _ _ _ | .armReceive | .rxCheck _ _ | .classify => false
  | .fDataEp _ _ | .fDataGw _ _ | .fLinkreqEp _ _ | .fLinkreqGw _ _ | .fReserved _ _ _ _ => false

/-- The operation is a frame class of a received control byte (30_encoding R106). -/
def Instr.isFrameClass : Instr → Bool
  | .fDataEp _ _ | .fDataGw _ _ | .fLinkreqEp _ _ | .fLinkreqGw _ _ | .fReserved _ _ _ _ => true
  | .init _ _ _ _ _ | .isbcast _ | .linkexists | .linkestablish _ _ | .linkdestroy | .compare _ _
  | .listen | .send _ _ _ | .setdrsp _ _ | .busy | .getpan | .getlink | .getlastsrc | .getlastseq
  | .getrssi | .getlqi | .getcrc | .fInit _ _ _ _ _ | .connect _ | .disconnect | .simpletransfer _
  | .transfer _ | .loaddataresponse _ _ | .fBusy | .edgeTx | .edgeRx _ | .tick
  | .frameBuild _ _ _ | .validateEp | .validateGw | .dispatchData | .dispatchLinkRequest | .frameIdle
  | .timeoutHandler | .uSend _ _ _ | .armReceive | .rxCheck _ _ | .classify => false

/-- The operation is well formed and fits the command word format (30_encoding R105): the one length byte
of `ISBCAST` and `COMPARE` counts at most 255, a host pointer fits `ptrW` bytes. -/
def Instr.encodable (c : Config) (i : Instr) : Bool :=
  i.wellFormed c &&
  match i with
  | .isbcast a => decide (a.length ≤ 255)
  | .compare a _ => decide (a.length ≤ 255)
  | .setdrsp ptr _ => decide (ptr < 256 ^ c.ptrW)
  | .loaddataresponse ptr _ => decide (ptr < 256 ^ c.ptrW)
  | _ => true

end Sys2Proof
end

