-- ==== Sys2Proof/Decode.lean ====
section
/-! DEFINITION. Decoding of command words (30_encoding R104, R105) and of control bytes (R93, R96, R106), and
after it the encoders, written from the same tables. -/

namespace Sys2Proof

/-- Why a word is no operation: its code is not in the table of R104, or the operands do not have the layout
R105 gives that code (R107, 60_exceptions R277: `U_ILLEGAL_CODE`, `U_BAD_OPERAND`). -/
inductive DecodeError where
  | illegalCode
  | badOperand (code : Byte)
  deriving DecidableEq, Repr

/-! ## Bits of a control byte -/

/-- `type = c[7:6]` (30_encoding R96). -/
def ctlType (c : Byte) : BitVec 2 := c.extractLsb' 6 2

/-- `c[5:2]`, the reserved bits (30_encoding R97). -/
def ctlRsv (c : Byte) : BitVec 4 := c.extractLsb' 2 4

/-- `drq = c[1]` (30_encoding R96). -/
def ctlDrq (c : Byte) : Bool := c.getLsbD 1

/-- `mode = c[0]` (30_encoding R96). -/
def ctlMode (c : Byte) : Bool := c.getLsbD 0

/-- A control byte from its four fields (30_encoding R93). -/
def ctlOf (ty : BitVec 2) (rsv : BitVec 4) (drq mode : Bool) : Byte :=
  ty ++ (rsv ++ (BitVec.ofBool drq ++ BitVec.ofBool mode))

/-- The 2-bit code of a frame type (30_encoding R94, 41_frame_build R144). -/
def typeCode (c : Config) : FrameType → BitVec 2
  | .data => 0#2
  | .linkReq => c.linkreqCode

/-! ## Operand bytes -/

/-- A byte string read as a natural, first byte most significant (the example platform of 95_test_vectors
section 2.12, DESIGN CHOICE, log 11). -/
def natOfBytes : Bytes → Nat
  | [] => 0
  | b :: bs => b.toNat * 256 ^ bs.length + natOfBytes bs

/-- `w` bytes of a natural, most significant first. -/
def bytesOfNat : Nat → Nat → Bytes
  | 0, _ => []
  | w + 1, n => BitVec.ofNat 8 (n / 256 ^ w) :: bytesOfNat w (n % 256 ^ w)

/-- The flag byte of `INIT`: `hook` bit 0, `lrcb` bit 1, `tocb` bit 2 (30_encoding R105). -/
def flagByte (hook lrcb tocb : Bool) : Byte :=
  0#5 ++ (BitVec.ofBool tocb ++ (BitVec.ofBool lrcb ++ BitVec.ofBool hook))

/-- A word whose operand part does not have its code's layout. -/
def badOperand (code : Byte) : Except DecodeError Instr := .error (.badOperand code)

/-- An operation without operands: the code byte alone (30_encoding R105). -/
def decodeBare (code : Byte) (i : Instr) (ops : Bytes) : Except DecodeError Instr :=
  if ops = [] then .ok i else badOperand code

/-- `INIT` and `F_INIT`: `PAN_W` bytes, `ADDR_W` bytes, one flag byte with bits 7:3 zero (30_encoding R105). -/
def decodeInit (c : Config) (code : Byte) (k : Bytes → Bytes → Bool → Bool → Bool → Instr) (ops : Bytes) :
    Except DecodeError Instr :=
  match ops.drop (c.panW + c.addrW) with
  | [f] =>
    if f.extractLsb' 3 5 = 0#5 then
      .ok (k (ops.take c.panW) ((ops.drop c.panW).take c.addrW) (f.getLsbD 0) (f.getLsbD 1) (f.getLsbD 2))
    else badOperand code
  | _ => badOperand code

/-- `LINKESTABLISH`: `PAN_W` bytes, `ADDR_W` bytes (30_encoding R105). -/
def decodeLink (c : Config) (code : Byte) (ops : Bytes) : Except DecodeError Instr :=
  if ops.length = c.panW + c.addrW then .ok (.linkestablish (ops.take c.panW) (ops.drop c.panW))
  else badOperand code

/-- One length byte `w`, then `w` bytes (`ISBCAST`, `CONNECT`, `SIMPLETRANSFER`, `TRANSFER`; 30_encoding R105). -/
def decodeCounted (code : Byte) (k : Bytes → Instr) (ops : Bytes) : Except DecodeError Instr :=
  match ops with
  | [] => badOperand code
  | w :: bs => if bs.length = w.toNat then .ok (k bs) else badOperand code

/-- `COMPARE`: one length byte `w`, then `2·w` bytes (30_encoding R105). -/
def decodeCompare (code : Byte) (ops : Bytes) : Except DecodeError Instr :=
  match ops with
  | [] => badOperand code
  | w :: bs =>
    if bs.length = 2 * w.toNat then .ok (.compare (bs.take w.toNat) (bs.drop w.toNat)) else badOperand code

/-- The frame type a 2-bit code stands for, if any (30_encoding R94). -/
def typeOfCode (c : Config) (t : BitVec 2) : Option FrameType :=
  if t = 0#2 then some .data else if t = c.linkreqCode then some .linkReq else none

/-- `SEND`: one byte laid out like a control byte (`type`, `drq`, every other bit 0), one length byte, the
payload (30_encoding R105). The micro-operations `FrameBuild` and `Send` take the same operands (log 5). -/
def decodeSend (c : Config) (code : Byte) (k : FrameType → Bool → Bytes → Instr) (ops : Bytes) :
    Except DecodeError Instr :=
  match ops with
  | t :: w :: bs =>
    if ctlRsv t = 0#4 ∧ ctlMode t = false ∧ bs.length = w.toNat then
      match typeOfCode c (ctlType t) with
      | some ty => .ok (k ty (ctlDrq t) bs)
      | none => badOperand code
    else badOperand code
  | _ => badOperand code

/-- `SETDRSP` and `LOADDATARESPONSE`: the host pointer in the platform's width, one length byte
(30_encoding R105). -/
def decodeDrsp (c : Config) (code : Byte) (k : Nat → Byte → Instr) (ops : Bytes) : Except DecodeError Instr :=
  match ops.drop c.ptrW with
  | [n] => .ok (k (natOfBytes (ops.take c.ptrW)) n)
  | _ => badOperand code

/-- `RxCheck`: the length prefix and one byte `0x00`/`0x01` (the model's own layout, log 5). -/
def decodeRxCheck (code : Byte) (ops : Bytes) : Except DecodeError Instr :=
  match ops with
  | [n, f] =>
    if f = 0#8 then .ok (.rxCheck n false) else if f = 1#8 then .ok (.rxCheck n true) else badOperand code
  | _ => badOperand code

/-- The operands of a word, by the code byte (the table of 30_encoding R104). -/
def decodeOps (c : Config) (code : Byte) (ops : Bytes) : Except DecodeError Instr :=
  match code with
  | 0x00#8 => decodeInit c code .init ops
  | 0x01#8 => decodeCounted code .isbcast ops
  | 0x02#8 => decodeBare code .linkexists ops
  | 0x03#8 => decodeLink c code ops
  | 0x04#8 => decodeBare code .linkdestroy ops
  | 0x05#8 => decodeCompare code ops
  | 0x10#8 => decodeBare code .listen ops
  | 0x11#8 => decodeSend c code .send ops
  | 0x12#8 => decodeDrsp c code .setdrsp ops
  | 0x13#8 => decodeBare code .busy ops
  | 0x20#8 => decodeBare code .getpan ops
  | 0x21#8 => decodeBare code .getlink ops
  | 0x22#8 => decodeBare code .getlastsrc ops
  | 0x23#8 => decodeBare code .getlastseq ops
  | 0x24#8 => decodeBare code .getrssi ops
  | 0x25#8 => decodeBare code .getlqi ops
  | 0x26#8 => decodeBare code .getcrc ops
  | 0x40#8 => decodeInit c code .fInit ops
  | 0x41#8 => decodeCounted code .connect ops
  | 0x42#8 => decodeBare code .disconnect ops
  | 0x43#8 => decodeCounted code .simpletransfer ops
  | 0x44#8 => decodeCounted code .transfer ops
  | 0x45#8 => decodeDrsp c code .loaddataresponse ops
  | 0x46#8 => decodeBare code .fBusy ops
  | 0x80#8 => decodeBare code .edgeTx ops
  | 0x81#8 => .ok (.edgeRx ops)
  | 0x82#8 => decodeBare code .tick ops
  | 0xC0#8 => decodeSend c code .frameBuild ops
  | 0xC1#8 => decodeBare code .validateEp ops
  | 0xC2#8 => decodeBare code .validateGw ops
  | 0xC3#8 => decodeBare code .dispatchData ops
  | 0xC4#8 => decodeBare code .dispatchLinkRequest ops
  | 0xC5#8 => decodeBare code .frameIdle ops
  | 0xC6#8 => decodeBare code .timeoutHandler ops
  | 0xC7#8 => decodeSend c code .uSend ops
  | 0xC8#8 => decodeBare code .armReceive ops
  | 0xC9#8 => decodeRxCheck code ops
  | 0xCA#8 => decodeBare code .classify ops
  | _ => .error .illegalCode

/-- The operation a command word stands for: the code byte, then its operands, nothing after them
(30_encoding R105). Total: every other word is refused by name (R107). An empty word names no operation. -/
def decode (c : Config) : Bytes → Except DecodeError Instr
  | [] => .error .illegalCode
  | code :: ops => decodeOps c code ops

/-- The frame class of a received control byte (30_encoding R106). Every byte is of exactly one class. -/
def decodeCtl (c : Config) (b : Byte) : Instr :=
  match typeOfCode c (ctlType b), ctlMode b with
  | some .data, false => .fDataEp (ctlRsv b) (ctlDrq b)
  | some .data, true => .fDataGw (ctlRsv b) (ctlDrq b)
  | some .linkReq, false => .fLinkreqEp (ctlRsv b) (ctlDrq b)
  | some .linkReq, true => .fLinkreqGw (ctlRsv b) (ctlDrq b)
  | none, m => .fReserved (ctlType b) (ctlRsv b) (ctlDrq b) m

/-! ## Encoding -/

/-- The operand bytes of a send (30_encoding R105). -/
def encodeSend (c : Config) (ty : FrameType) (drq : Bool) (p : Bytes) : Bytes :=
  ctlOf (typeCode c ty) 0#4 drq false :: BitVec.ofNat 8 p.length :: p

/-- The words of a well-formed operation: a command word (30_encoding R105), or for a frame class its control
byte (R106). -/
def encode (c : Config) : Instr → Bytes
  | .init pan addr hook lrcb tocb => 0x00#8 :: (pan ++ addr ++ [flagByte hook lrcb tocb])
  | .isbcast a => 0x01#8 :: BitVec.ofNat 8 a.length :: a
  | .linkexists => [0x02#8]
  | .linkestablish p r => 0x03#8 :: (p ++ r)
  | .linkdestroy => [0x04#8]
  | .compare a b => 0x05#8 :: BitVec.ofNat 8 a.length :: (a ++ b)
  | .listen => [0x10#8]
  | .send ty drq p => 0x11#8 :: encodeSend c ty drq p
  | .setdrsp ptr n => 0x12#8 :: (bytesOfNat c.ptrW ptr ++ [n])
  | .busy => [0x13#8]
  | .getpan => [0x20#8]
  | .getlink => [0x21#8]
  | .getlastsrc => [0x22#8]
  | .getlastseq => [0x23#8]
  | .getrssi => [0x24#8]
  | .getlqi => [0x25#8]
  | .getcrc => [0x26#8]
  | .fInit pan addr hook lrcb tocb => 0x40#8 :: (pan ++ addr ++ [flagByte hook lrcb tocb])
  | .connect p => 0x41#8 :: BitVec.ofNat 8 p.length :: p
  | .disconnect => [0x42#8]
  | .simpletransfer p => 0x43#8 :: BitVec.ofNat 8 p.length :: p
  | .transfer p => 0x44#8 :: BitVec.ofNat 8 p.length :: p
  | .loaddataresponse ptr n => 0x45#8 :: (bytesOfNat c.ptrW ptr ++ [n])
  | .fBusy => [0x46#8]
  | .edgeTx => [0x80#8]
  | .edgeRx env => 0x81#8 :: env
  | .tick => [0x82#8]
  | .frameBuild ty drq p => 0xC0#8 :: encodeSend c ty drq p
  | .validateEp => [0xC1#8]
  | .validateGw => [0xC2#8]
  | .dispatchData => [0xC3#8]
  | .dispatchLinkRequest => [0xC4#8]
  | .frameIdle => [0xC5#8]
  | .timeoutHandler => [0xC6#8]
  | .uSend ty drq p => 0xC7#8 :: encodeSend c ty drq p
  | .armReceive => [0xC8#8]
  | .rxCheck n crcOk => [0xC9#8, n, if crcOk then 1#8 else 0#8]
  | .classify => [0xCA#8]
  | .fDataEp rsv drq => [ctlOf 0#2 rsv drq false]
  | .fDataGw rsv drq => [ctlOf 0#2 rsv drq true]
  | .fLinkreqEp rsv drq => [ctlOf c.linkreqCode rsv drq false]
  | .fLinkreqGw rsv drq => [ctlOf c.linkreqCode rsv drq true]
  | .fReserved ty rsv drq mode => [ctlOf ty rsv drq mode]

/-! ## Words of the opcode table -/

/-- How many operand bytes a word with this code has when all of them are zero (30_encoding R105). -/
def zeroOperands (c : Config) (code : Byte) : Nat :=
  match code with
  | 0x00#8 => c.panW + c.addrW + 1
  | 0x01#8 => 1
  | 0x03#8 => c.panW + c.addrW
  | 0x05#8 => 1
  | 0x11#8 => 2
  | 0x12#8 => c.ptrW + 1
  | 0x40#8 => c.panW + c.addrW + 1
  | 0x41#8 => 1
  | 0x43#8 => 1
  | 0x44#8 => 1
  | 0x45#8 => c.ptrW + 1
  | 0x81#8 => 3
  | 0xC0#8 => 2
  | 0xC7#8 => 2
  | 0xC9#8 => 2
  | _ => 0

/-- The `n` low bytes of a number, least significant first: the numbering of spec/opcode_table.json. -/
def tableBytes : Nat → Nat → Bytes
  | 0, _ => []
  | n + 1, w => BitVec.ofNat 8 w :: tableBytes n (w / 256)

/-- The command word whose first `nbits` bits are `w` and whose other bits are 0. -/
def tableWord (c : Config) (nbits w : Nat) : Bytes :=
  let bs := tableBytes (nbits / 8) w
  bs ++ List.replicate (zeroOperands c (bs.headD 0#8) + 1 - bs.length) 0#8

/-- The operation the decoder reads from an opcode-table word, in the reset configuration. The frame classes
are control bytes and share their values with command codes, so they are not read here (log 6). -/
def decodeTableWord (nbits w : Nat) : Option Instr :=
  match decode Config.cfg1 (tableWord Config.cfg1 nbits w) with
  | .ok i => some i
  | .error _ => none

end Sys2Proof
end

