-- ==== Sys2Proof/Machine/State.lean ====
section
/-! DEFINITION. The state of one BLMAC instance as plain data (10_state R20), the byte spaces around it
(20_memory R60), the interface of a step (00_scope R13 to R15), the ways a step stops, and power-on. -/

namespace Sys2Proof.Machine

/-- A byte space: (address, byte) pairs with strictly rising addresses. An unlisted address has NO VALUE. -/
abbrev Memory := List Host.Cell

/-- The protocol state `ST` (10_state R31). -/
inductive ProtState where
  | idle
  | listening
  | transmitting
  deriving DecidableEq, Repr

/-- What `FB` holds (10_state R32). -/
inductive FbTag where
  | none
  | tx
  | rxArmed
  | rx
  deriving DecidableEq, Repr

/-- The last power command given to the radio (10_state R36). -/
inductive Radio where
  | unknown
  | lowPower
  | active
  deriving DecidableEq, Repr

/-- The class of a control byte (42_frame_validate R163). -/
inductive FrameClass where
  | data
  | linkReq
  | reserved
  deriving DecidableEq, Repr

/-- Why a received frame is rejected (60_exceptions R274). -/
inductive RejectCause where
  | rLength
  | rCrc
  | rMode
  | rDest
  | rPan
  | rType
  deriving DecidableEq, Repr

/-- The label of an abnormal end that still has a next state (60_exceptions R270 to R275). -/
inductive Cause where
  | contention
  | capacity
  | phyReject
  | reject (c : RejectCause)
  | timeout
  deriving DecidableEq, Repr

/-- Output actions (00_scope R14). -/
inductive Action where
  | phyTx (frame : Bytes)
  | phyArmRx
  | phyActive
  | phyLowPower
  | afEnable (b : Byte)
  | afDisable
  | cbFrameCompleteEp (payload : Bytes) (n : Byte)
  | cbFrameCompleteGw (f : Bool) (payload : Bytes) (n : Byte)
  | cbLinkRequest (pan src payload : Bytes) (n : Byte)
  | cbTimeout
  | backupWrite (record : Bytes)
  deriving DecidableEq, Repr

/-- The value a step returns (00_scope R13; the result column of 30_encoding R104). -/
inductive Result where
  /-- no result -/
  | unit
  /-- a boolean -/
  | bool (b : Bool)
  /-- `COMPARE`: -1, 0, +1 -/
  | order (o : Ordering)
  /-- one byte -/
  | byte (b : Byte)
  /-- the bytes of a field -/
  | bytes (bs : Bytes)
  /-- the status byte of an edge event -/
  | status (b : Byte)
  /-- a check or validator: pass, or the rejection cause -/
  | verdict (v : Option RejectCause)
  /-- `Classify` -/
  | frameClass (c : FrameClass)
  deriving DecidableEq, Repr

/-- One input waiting to be delivered: its command word (30_encoding R105), the environment's answers to what
its step may ask (00_scope R15), and the bytes the host has stored in its own memory since the last input
(20_memory R66 b). -/
structure Request where
  word : Bytes
  phyAccept : Bool
  lrAccept : Bool
  hostWrites : Memory
  deriving DecidableEq, Repr

/-- The state. `cfg` never changes (00_scope R8). From `inited` to `afByte`: the registers of 10_state R20, in
its order; a register the role lacks stands unused. `hm`, `nv`: 20_memory R60. From `pending` on: the step's
interface and the model's own trace. -/
@[ext]
structure State where
  cfg : Config
  inited : Bool
  fixed : Bool
  panid : Bytes
  localAddr : Bytes
  remote : Bytes
  hook : Bool
  busy : Bool
  fb : Memory
  len : Byte
  seq : Byte
  drspPtr : Nat
  drspLen : Byte
  st : ProtState
  fbtag : FbTag
  lrcb : Bool
  tocb : Bool
  rxto : BitVec 16
  rxtoAct : Bool
  lastRssi : Byte
  lastLqi : BitVec 7
  lastCrc : Bool
  lastV : Bool
  radio : Radio
  afEn : Bool
  afByte : Byte
  hm : Memory
  nv : Memory
  pending : List Request
  phyAccept : Bool
  lrAccept : Bool
  out : List Action
  result : Option Result
  cause : Option Cause
  freeCtr : Nat
  deriving DecidableEq, Repr

/-- What stops the machine with a fault. -/
inductive Fault where
  /-- Raised by a frame-buffer read or write that leaves `FB[0..MAX_FRAME)`: no such byte exists (20_memory
  R61). Safe: the model stops where the spec gives no behaviour. -/
  | fbRange
  deriving DecidableEq, Repr

/-- Inputs to which the spec gives no behaviour (60_exceptions R277): no next state. All of them are safe. -/
inductive Refusal where
  /-- No meaning for the instruction yet; raised by `exec` only. No arm of this model raises it. Safe. -/
  | notModelled (mnemonic : String)
  /-- An input other than `INIT`, `F_INIT`, `ISBCAST`, `COMPARE` while `INITED = 0`. Raised by `admitOp`. Safe. -/
  | uPreinit
  /-- `INIT` or `F_INIT` while `INITED = 1`. Raised by `initialise`. Safe. -/
  | uReinit
  /-- `INIT` of a Gateway with the broadcast PAN id. Raised by `initialise`. Safe. -/
  | uGwBcastPan
  /-- A role-specific operation on the other role. Raised by `admitOp`. Safe. -/
  | uRole
  /-- A completion event with nothing in flight. Raised by `EDGE_TX` and `EDGE_RX`. Safe. -/
  | uSpuriousEvent
  /-- An envelope whose size does not match its length prefix. Raised by `EDGE_RX`. Safe. -/
  | uMalformedEnv
  /-- A read of the frame buffer while it holds no defined frame. Raised by every read of `FB`. Safe. -/
  | uFbUndefined
  /-- A read of a reception latch before the first reception. Raised by `GETRSSI`, `GETLQI`, `GETCRC`. Safe. -/
  | uLatchUndefined
  /-- An operation code not in the table, or a micro-operation code given as an input. Raised by `step`. Safe. -/
  | uIllegalCode
  /-- An operand outside its range. Raised by `admitOp`, and by `step` for a word of the wrong layout. Safe. -/
  | uBadOperand
  /-- The configuration breaks 00_scope R8: "not a BLMAC" (93_implementation_defined U25). Raised by `step`.
  Safe. -/
  | notBlmac
  deriving DecidableEq, Repr

/-- Power-on of an instance with configuration `c`: `INITED = 0` is the only register the spec defines
(10_state R43). Every other register holds a value the model names (DESIGN CHOICE, log 2); `FB` holds no value
at any byte (log 7). -/
def State.powerOn (c : Config) : State :=
  { cfg := c, inited := false, fixed := false,
    panid := List.replicate c.panW 0#8, localAddr := List.replicate c.addrW 0#8,
    remote := List.replicate c.addrW 0#8, hook := false, busy := false, fb := [], len := 0#8, seq := 0#8,
    drspPtr := 0, drspLen := 0#8, st := .idle, fbtag := .none, lrcb := false, tocb := false,
    rxto := 0#16, rxtoAct := false, lastRssi := 0#8, lastLqi := 0#7, lastCrc := false, lastV := false,
    radio := .unknown, afEn := false, afByte := 0#8, hm := [], nv := [],
    pending := [], phyAccept := true, lrAccept := true, out := [], result := none, cause := none,
    freeCtr := 0 }

/-- The machine right after reset (power-on, 10_state R43), in the reference configuration (log 1). -/
def State.reset : State := State.powerOn Config.cfg1

end Sys2Proof.Machine
end

