-- ==== Sys2Proof/Machine/Flags.lean ====
section
/-! DEFINITION. Every flag computation: the bits of a built control byte, the class of a received one, the
status bits of an envelope, and the cause codes (60_exceptions R274, R275, R277, R278). -/

namespace Sys2Proof.Machine

/-- The mode bit a role sends: 0 for an End Point, 1 for a Gateway (30_encoding R95). -/
def modeBit : Role → Bool
  | .ep => false
  | .gw => true

/-- The control byte a builder writes: type, data request, mode, every other bit 0 (30_encoding R95,
41_frame_build R144). -/
def buildCtl (c : Config) (ty : FrameType) (drq : Bool) : Byte :=
  ctlOf (typeCode c ty) 0#4 drq (modeBit c.role)

/-- The control byte with its data-request bit cleared and every other bit kept (43_scheduler_fsm R194). -/
def clearDrq (b : Byte) : Byte := ctlOf (ctlType b) (ctlRsv b) false (ctlMode b)

/-- `Classify` (42_frame_validate R163): only bits 7:6 count. -/
def classifyCtl (c : Config) (b : Byte) : FrameClass :=
  if ctlType b = 0#2 then .data
  else if ctlType b = c.linkreqCode then .linkReq
  else .reserved

/-- `crc_ok = lq[7]` (30_encoding R101). -/
def crcOkOf (lq : Byte) : Bool := lq.getLsbD 7

/-- `lqi = lq[6:0]` (30_encoding R101). -/
def lqiOf (lq : Byte) : BitVec 7 := lq.extractLsb' 0 7

/-- Cause codes of the rejections (60_exceptions R274). -/
def RejectCause.code : RejectCause → Byte
  | .rLength => 0x10#8
  | .rCrc => 0x11#8
  | .rMode => 0x12#8
  | .rDest => 0x13#8
  | .rPan => 0x14#8
  | .rType => 0x15#8

/-- Cause codes of the ends that have a next state (60_exceptions R274, R275, R278). -/
def Cause.code : Cause → Byte
  | .contention => 0x01#8
  | .capacity => 0x02#8
  | .phyReject => 0x03#8
  | .reject c => c.code
  | .timeout => 0x20#8

/-- Codes of the refusals (60_exceptions R277). The two refusals that are the model's own have none. -/
def Refusal.code : Refusal → Option Byte
  | .uPreinit => some 0x80#8
  | .uReinit => some 0x81#8
  | .uGwBcastPan => some 0x82#8
  | .uRole => some 0x83#8
  | .uSpuriousEvent => some 0x84#8
  | .uMalformedEnv => some 0x85#8
  | .uFbUndefined => some 0x86#8
  | .uLatchUndefined => some 0x87#8
  | .uIllegalCode => some 0x88#8
  | .uBadOperand => some 0x89#8
  | _ => none

end Sys2Proof.Machine
end

