-- ==== Sys2Proof/Machine/Operands.lean ====
section
/-! DEFINITION. Every operand form: address comparisons, the header of a frame, the physical envelope, the
persisted record, and the bytes of a result (30_encoding R90 to R105). -/

namespace Sys2Proof.Machine

/-- `ISBCAST(a)`: every byte equals the broadcast sentinel (40_addressing_registry R121). -/
def isBcast (c : Config) (a : Bytes) : Bool := a.all (fun b => b == c.bcast)

/-- `COMPARE`: lexicographic, bytes unsigned (40_addressing_registry R130). -/
def compareBytes : Bytes → Bytes → Ordering
  | a :: as, b :: bs => if a.toNat < b.toNat then .lt else if b.toNat < a.toNat then .gt else compareBytes as bs
  | [], [] => .eq
  | [], _ :: _ => .lt
  | _ :: _, [] => .gt

/-- `low(p) = p[PAN_W - 1]` (20_memory R68, 40_addressing_registry R126). -/
def lowByte (c : Config) (p : Bytes) : Byte := p.getD (c.panW - 1) 0#8

/-- The header fields of a frame (30_encoding R90). -/
structure Header where
  pan : Bytes
  dst : Bytes
  src : Bytes
  ctl : Byte
  seq : Byte
  deriving DecidableEq, Repr

/-- The header as it stands in `FB` and on the wire: the fields in order, no padding (20_memory R62). -/
def headerBytes (h : Header) : Bytes := h.pan ++ h.dst ++ h.src ++ [h.ctl, h.seq]

/-- Parser field extraction from the first `HDR_LEN` bytes of a frame (41_frame_build R150). -/
def parseHeader (c : Config) (bs : Bytes) : Header :=
  { pan := bs.take c.panW
    dst := (bs.drop c.offDst).take c.addrW
    src := (bs.drop c.offSrc).take c.addrW
    ctl := bs.getD c.offCtl 0#8
    seq := bs.getD c.offSeq 0#8 }

/-- A received physical envelope, taken apart (30_encoding R100). -/
structure Envelope where
  n : Nat
  frame : Bytes
  rssi : Byte
  lq : Byte
  deriving DecidableEq, Repr

/-- `env = [n] ++ F ++ [rssi] ++ [lq]` with `|F| = n`; nothing where `|env| ≠ env[0] + 3`
(30_encoding R100, 43_scheduler_fsm R189). -/
def parseEnvelope : Bytes → Option Envelope
  | [] => none
  | n :: rest =>
    match rest.drop n.toNat with
    | [rssi, lq] => some { n := n.toNat, frame := rest.take n.toNat, rssi := rssi, lq := lq }
    | _ => none

/-- `Record()`: the persisted record bytes (30_encoding R102, 40_addressing_registry R125). -/
def recordBytes (s : State) : Bytes :=
  (if s.fixed then 0x01#8 else 0x00#8) :: (s.panid ++ s.localAddr ++ s.remote)

/-- A result as bytes (30_encoding R105). `Classify`, the checks and a missing result have none there. -/
def Result.toBytes : Result → Option Bytes
  | .unit => none
  | .bool b => some [if b then 0x01#8 else 0x00#8]
  | .order .lt => some [0xFF#8]
  | .order .eq => some [0x00#8]
  | .order .gt => some [0x01#8]
  | .byte b => some [b]
  | .bytes bs => some bs
  | .status b => some [b]
  | .verdict _ => none
  | .frameClass _ => none

end Sys2Proof.Machine
end

