-- ==== Sys2Proof/Machine/Ops.lean ====
section
/-! DEFINITION. The shared operations: byte spaces, the frame buffer, the actions, the common ends of an
operation (failure result, silent rejection, refusal), event entry, and the micro-operations of the state
machine. Every meaning is written over these. -/

namespace Sys2Proof.Machine

/-- What a meaning answers. -/
abbrev Res := Host.Outcome State Fault Refusal

/-- Go on with `k` after `o`, unless `o` stopped. -/
def bindOutcome {σ τ φ ρ : Type} (o : Host.Outcome σ φ ρ) (k : σ → Host.Outcome τ φ ρ) : Host.Outcome τ φ ρ :=
  match o with
  | .next a => k a
  | .fault r => .fault r
  | .refused r => .refused r

/-! ## Byte spaces -/

/-- The value at an address; an unlisted address has none. -/
def Memory.read : Memory → Nat → Option Byte
  | [], _ => none
  | (b, v) :: m, a => if a = b then some v else Memory.read m a

/-- Store one byte, keeping the addresses strictly rising. -/
def Memory.write : Memory → Nat → Byte → Memory
  | [], a, v => [(a, v)]
  | (b, w) :: m, a, v =>
    if a < b then (a, v) :: (b, w) :: m
    else if a = b then (a, v) :: m
    else (b, w) :: Memory.write m a v

/-- Store a byte sequence from an address on. -/
def Memory.writeBytes (m : Memory) (a : Nat) : Bytes → Memory
  | [] => m
  | v :: vs => Memory.writeBytes (m.write a v) (a + 1) vs

/-- Store (address, byte) pairs, in order. -/
def Memory.writeCells (m : Memory) : Memory → Memory
  | [] => m
  | (a, v) :: cs => Memory.writeCells (m.write a v) cs

/-- `n` bytes from an address on; nothing where one of them has no value. -/
def Memory.readBytes (m : Memory) (a : Nat) : Nat → Option Bytes
  | 0 => some []
  | n + 1 =>
    match m.read a, Memory.readBytes m (a + 1) n with
    | some v, some vs => some (v :: vs)
    | _, _ => none

/-- The canonical form: addresses strictly rising. (An unlisted address reads as no value, so no entry can
equal what an unlisted address reads as.) -/
def Memory.wf : Memory → Bool
  | [] => true
  | [_] => true
  | (a, _) :: (b, w) :: m => decide (a < b) && Memory.wf ((b, w) :: m)

/-! ## The frame buffer -/

/-- `FB` holds a defined frame (10_state R32, 44_buffer_arbiter R226). -/
def frameDefined (s : State) : Bool := decide (s.fbtag = .tx) || decide (s.fbtag = .rx)

/-- Read `n` bytes of `FB`. Where `FB` holds no defined frame, or a byte has no value, the read is refused
(44_buffer_arbiter R226); outside `MAX_FRAME` bytes there is nothing to read (20_memory R61). -/
def readFb (s : State) (off n : Nat) : Host.Outcome Bytes Fault Refusal :=
  if frameDefined s then
    if off + n ≤ s.cfg.maxFrame then
      match s.fb.readBytes off n with
      | some bs => .next bs
      | none => .refused .uFbUndefined
    else .fault .fbRange
  else .refused .uFbUndefined

/-- Read one byte of `FB`. -/
def readFbByte (s : State) (off : Nat) : Host.Outcome Byte Fault Refusal :=
  bindOutcome (readFb s off 1) fun bs => .next (bs.headD 0#8)

/-- Write bytes into `FB` (20_memory R61, R70). -/
def writeFb (off : Nat) (bs : Bytes) (s : State) : Res :=
  if off + bs.length ≤ s.cfg.maxFrame then .next { s with fb := s.fb.writeBytes off bs } else .fault .fbRange

/-- The header fields of the frame in `FB` (00_scope R12, 41_frame_build R150). -/
def readHeader (s : State) : Host.Outcome Header Fault Refusal :=
  bindOutcome (readFb s 0 s.cfg.hdrLen) fun bs => .next (parseHeader s.cfg bs)

/-- The payload of the frame in `FB`: `FB[HDR_LEN .. HDR_LEN+LEN)` (20_memory R62). -/
def readPayload (s : State) : Host.Outcome Bytes Fault Refusal := readFb s s.cfg.hdrLen s.len.toNat

/-- `MemRead(ptr, n)`: host memory as it is now (20_memory R66). A byte the model was not told of is a free
value (log 10). -/
def memRead (s : State) (ptr n : Nat) : Bytes :=
  (List.range n).map fun i => (s.hm.read (ptr + i)).getD (Config.hostByte s.freeCtr (ptr + i))

/-! ## Actions and results -/

/-- `emit A` (00_scope R12). -/
def emit (a : Action) (s : State) : State := { s with out := s.out ++ [a] }

/-- `PHY_ACTIVE`, with its shadow (10_state R36). -/
def phyActive (s : State) : State := { emit .phyActive s with radio := .active }

/-- `PHY_LOWPOWER`, with its shadow (10_state R36). -/
def phyLowPower (s : State) : State := { emit .phyLowPower s with radio := .lowPower }

/-- `AF_ENABLE(b)`, with its shadow (10_state R37). -/
def afEnable (b : Byte) (s : State) : State := { emit (.afEnable b) s with afEn := true, afByte := b }

/-- `AF_DISABLE`, with its shadow: `AF.byte` stays (10_state R37). -/
def afDisable (s : State) : State := { emit .afDisable s with afEn := false }

/-- `BACKUP_WRITE(Record())`: the record as the registers now are, whole, into the non-volatile store
(20_memory R65, 40_addressing_registry R125). -/
def backupWrite (s : State) : State :=
  { emit (.backupWrite (recordBytes s)) s with nv := s.nv.writeBytes 0 (recordBytes s) }

/-- `return v` (00_scope R12). -/
def ret (r : Result) (s : State) : Res := .next { s with result := some r }

/-- A failure result: the label for the trace; the registers stay (60_exceptions R271, R272). -/
def failWith (c : Cause) (s : State) : State := { s with cause := some c }

/-- The status byte an edge entry point returns: any value (93_implementation_defined U6), a fresh free one. -/
def retStatus (s : State) : Res :=
  .next { s with result := some (.status (Config.edgeStatus s.freeCtr)), freeCtr := s.freeCtr + 1 }

/-! ## Who may issue an operation -/

/-- The codes that may come before `INIT` (60_exceptions R277 `U_PREINIT`). -/
def beforeInit (code : Byte) : Bool :=
  code == 0x00#8 || code == 0x01#8 || code == 0x05#8 || code == 0x40#8

/-- The one role that has the operation, if only one has (60_exceptions R292, the roles column of
30_encoding R104). -/
def onlyRole (code : Byte) : Option Role :=
  match code with
  | 0x02#8 => some .ep
  | 0x03#8 => some .ep
  | 0x04#8 => some .ep
  | 0x12#8 => some .gw
  | 0x21#8 => some .ep
  | 0x41#8 => some .ep
  | 0x42#8 => some .ep
  | 0x43#8 => some .ep
  | 0x44#8 => some .ep
  | 0x45#8 => some .gw
  | 0xC1#8 => some .ep
  | 0xC2#8 => some .gw
  | 0xC6#8 => some .ep
  | _ => none

/-- The refusal that comes before the operation's own conditions: "`U_PREINIT` is tested before everything
else, `U_ROLE` next" (60_exceptions R286). -/
def inputRefusal (s : State) (code : Byte) : Option Refusal :=
  if !s.inited && !beforeInit code then some .uPreinit
  else
    match onlyRole code with
    | some r => if s.cfg.role = r then none else some .uRole
    | none => none

/-- Run `k` as the meaning of operation `i` with code `code`: refused before `INIT`, on the wrong role, and
with an operand outside its range (60_exceptions R277, R286; 30_encoding R107). -/
def admitOp (code : Byte) (i : Instr) (s : State) (k : Res) : Res :=
  match inputRefusal s code with
  | some r => .refused r
  | none => if i.wellFormed s.cfg then k else .refused .uBadOperand

/-- The same for a frame class, which has no operation code and exists on both roles (log 6). -/
def admitFrame (i : Instr) (s : State) (k : Res) : Res :=
  if !s.inited then .refused .uPreinit
  else if i.wellFormed s.cfg then k
  else .refused .uBadOperand

/-! ## Addressing Registry -/

/-- `INIT` (40_addressing_registry R120). After it "every byte" of `FB` is undefined (10_state R43). -/
def initialise (pan addr : Bytes) (hook lrcb tocb : Bool) (s : State) : Res :=
  if s.inited then .refused .uReinit
  else if s.cfg.role = .gw ∧ isBcast s.cfg pan = true then .refused .uGwBcastPan
  else
    let s := { s with panid := pan, localAddr := addr }
    let s :=
      match s.cfg.role with
      | .ep =>
        let s := { s with remote := s.cfg.bcastOf s.cfg.addrW, hook := hook, tocb := tocb }
        if isBcast s.cfg pan then afDisable { s with fixed := false }
        else afEnable (lowByte s.cfg pan) { s with fixed := true }
      | .gw => afEnable (lowByte s.cfg pan) { s with lrcb := lrcb, drspLen := 0#8 }
    .next { s with
      busy := false, st := .idle, seq := s.cfg.seqInit, len := 0#8, fb := [], fbtag := .none,
      rxtoAct := if s.cfg.hasRxto then false else s.rxtoAct,
      radio := .unknown, lastV := false, inited := true }

/-- `LinkExists()`: `REMOTE` is not broadcast (40_addressing_registry R122). -/
def linkExists (s : State) : Bool := !isBcast s.cfg s.remote

/-- The `if HOOK = 1` line of R123 and R124. -/
def persist (s : State) : State := if s.hook then backupWrite s else s

/-- `LINKESTABLISH(p, r)` on an End Point (40_addressing_registry R123). -/
def linkEstablish (p r : Bytes) (s : State) : State :=
  let s := if s.fixed then s else afEnable (lowByte s.cfg p) { s with panid := p }
  persist { s with remote := r }

/-- `LINKDESTROY` on an End Point (40_addressing_registry R124). -/
def linkDestroy (s : State) : State :=
  let s := if s.fixed then s else afDisable { s with panid := s.cfg.bcastOf s.cfg.panW }
  persist { s with remote := s.cfg.bcastOf s.cfg.addrW }

/-! ## Sending and receiving -/

/-- Event entry of both completion events: "first of all `BUSY <- 0 ; ST <- Idle`" (60_exceptions R287). An
event saves nothing and switches no mode; its return is the end of the step (R288). -/
def completionEntry (s : State) : State := { s with busy := false, st := .idle }

/-- `ArmReceive()` (43_scheduler_fsm R181). From here on no byte of `FB` has a defined value
(44_buffer_arbiter R221, log 7). -/
def armRx (s : State) : State :=
  let s := { emit .phyArmRx s with
    busy := true, st := .listening, fbtag := .rxArmed, radio := .active, fb := [] }
  if s.cfg.hasRxto then { s with rxto := BitVec.ofNat 16 s.cfg.rxtoTicks, rxtoAct := true } else s

/-- `FrameIdle()` (43_scheduler_fsm R198). -/
def idlePolicy (s : State) : State :=
  match s.cfg.role with
  | .ep => phyLowPower s
  | .gw => armRx (phyLowPower s)

/-- `Reject(cause)`: no callback, the idle policy (43_scheduler_fsm R191, 60_exceptions R274). -/
def rejectFrame (c : RejectCause) (s : State) : State := idlePolicy (failWith (.reject c) s)

/-- The destination a build stamps: the linked remote address, or on a Gateway the source address of the
frame in `FB` (41_frame_build R142, R153). -/
def buildDest (s : State) : Host.Outcome Bytes Fault Refusal :=
  match s.cfg.role with
  | .ep => .next s.remote
  | .gw => readFb s s.cfg.offSrc s.cfg.addrW

/-- The header a build stamps (41_frame_build R141 to R145). -/
def buildHeader (ty : FrameType) (drq : Bool) (dst : Bytes) (s : State) : Header :=
  { pan := s.panid, dst := dst, src := s.localAddr, ctl := buildCtl s.cfg ty drq, seq := s.seq }

/-- `FrameBuild(type, drq, P)` (41_frame_build R147). The destination is read before anything is written. -/
def buildFrame (ty : FrameType) (drq : Bool) (p : Bytes) (s : State) : Res :=
  bindOutcome (buildDest s) fun d =>
  bindOutcome (writeFb 0 (headerBytes (buildHeader ty drq d s) ++ p) s) fun s =>
  .next { s with seq := s.seq + 1#8, len := BitVec.ofNat 8 p.length, fbtag := .tx }

/-- The ask of `phy_accept` and what follows it (43_scheduler_fsm R183, R184). -/
def phyAnswer (s : State) : Bool × State :=
  if s.phyAccept then (true, { s with busy := true, st := .transmitting, radio := .active })
  else (false, failWith .phyReject s)

/-- `Send(type, drq, P)` (43_scheduler_fsm R183): busy, then capacity, then the build, then the Physical
Bridge's answer. The boolean is the result. -/
def sendFrame (ty : FrameType) (drq : Bool) (p : Bytes) (s : State) :
    Host.Outcome (Bool × State) Fault Refusal :=
  if s.busy then .next (false, failWith .contention s)
  else if s.cfg.maxFrame < p.length + s.cfg.hdrLen then .next (false, failWith .capacity s)
  else
    bindOutcome (buildFrame ty drq p s) fun s =>
    bindOutcome (readFb s 0 (s.cfg.hdrLen + s.len.toNat)) fun b =>
    .next (phyAnswer (emit (.phyTx b) s))

/-- A send whose boolean is the command's result. -/
def sendResult (ty : FrameType) (drq : Bool) (p : Bytes) (s : State) : Res :=
  bindOutcome (sendFrame ty drq p s) fun r => ret (.bool r.1) r.2

/-- A send from dispatch: "if ok = false: FrameIdle()" (43_scheduler_fsm R195, R197). -/
def sendOrIdle (ty : FrameType) (p : Bytes) (s : State) : Res :=
  bindOutcome (sendFrame ty false p s) fun r => .next (if r.1 then r.2 else idlePolicy r.2)

/-- `SETDRSP(ptr, len)` (43_scheduler_fsm R185). -/
def stageResponse (ptr : Nat) (n : Byte) (s : State) : State := { s with drspPtr := ptr, drspLen := n }

/-- The ask of host memory (20_memory R66), which takes a fresh free value. -/
def takeResponse (s : State) : State := { s with drspLen := 0#8, freeCtr := s.freeCtr + 1 }

/-- `Turnaround()` (43_scheduler_fsm R195). -/
def turnaround (s : State) : Res :=
  let s := phyActive s
  sendOrIdle .data (memRead s s.drspPtr s.drspLen.toNat) (takeResponse s)

/-- `DispatchData()` (43_scheduler_fsm R194). -/
def dispatchDataOp (s : State) : Res :=
  bindOutcome (readFbByte s s.cfg.offCtl) fun c =>
  bindOutcome (writeFb s.cfg.offCtl [clearDrq c] s) fun s =>
  bindOutcome (readPayload s) fun p =>
  match s.cfg.role with
  | .ep => .next (idlePolicy (emit (.cbFrameCompleteEp p s.len) s))
  | .gw =>
    let s := emit (.cbFrameCompleteGw (ctlDrq c) p s.len) s
    if ctlDrq c = true ∧ s.drspLen ≠ 0#8 then turnaround s else .next (idlePolicy s)

/-- A Gateway's answer to a link request once it is decided (43_scheduler_fsm R197). -/
def answerLink (acc : Bool) (s : State) : Res :=
  if acc then sendOrIdle .linkReq [] (phyActive s) else .next (idlePolicy s)

/-- `DispatchLinkRequest()` (43_scheduler_fsm R196 on an End Point, R197 on a Gateway). -/
def dispatchLinkOp (s : State) : Res :=
  bindOutcome (readHeader s) fun h =>
  match s.cfg.role with
  | .ep => .next (idlePolicy (linkEstablish h.pan h.src s))
  | .gw =>
    bindOutcome (readPayload s) fun p =>
    if s.lrcb then answerLink s.lrAccept (emit (.cbLinkRequest h.pan h.src p s.len) s)
    else answerLink true s

/-! ## Checks on a received frame -/

/-- `RxCheck`: the length bounds, then the CRC bit (42_frame_validate R161, R162). -/
def rxCheckOp (c : Config) (n : Nat) (crcOk : Bool) : Option RejectCause :=
  if n < c.hdrLen then some .rLength
  else if c.maxFrame < n then some .rLength
  else if crcOk then none
  else some .rCrc

/-- `ValidateEP` (42_frame_validate R166). -/
def validateEpOp (s : State) (h : Header) : Option RejectCause :=
  if ctlMode h.ctl = false then some .rMode
  else if h.dst ≠ s.localAddr then some .rDest
  else if h.pan = s.panid then none
  else if classifyCtl s.cfg h.ctl = .linkReq ∧ linkExists s = false ∧ s.fixed = false then none
  else some .rPan

/-- `ValidateGW` (42_frame_validate R167). -/
def validateGwOp (s : State) (h : Header) : Option RejectCause :=
  if ctlMode h.ctl = true then some .rMode
  else if h.dst ≠ s.localAddr ∧ isBcast s.cfg h.dst = false then some .rDest
  else if h.pan ≠ s.panid ∧ isBcast s.cfg h.pan = false then some .rPan
  else none

/-- The role's own filter. -/
def validateOp (s : State) (h : Header) : Option RejectCause :=
  match s.cfg.role with
  | .ep => validateEpOp s h
  | .gw => validateGwOp s h

/-- What follows a passed length and CRC check: the role's filter, then dispatch by type
(43_scheduler_fsm R189; 42_frame_validate R160, R168). -/
def processFrame (s : State) : Res :=
  bindOutcome (readHeader s) fun h =>
  match validateOp s h with
  | some c => .next (rejectFrame c s)
  | none =>
    match classifyCtl s.cfg h.ctl with
    | .reserved => .next (rejectFrame .rType s)
    | .data => dispatchDataOp s
    | .linkReq => dispatchLinkOp s

/-- A frame class as an operation: the frame in `FB` has arrived with control byte `c` (30_encoding R106,
log 6). -/
def frameArrived (c : Byte) (s : State) : Res :=
  bindOutcome (writeFb s.cfg.offCtl [c] s) processFrame

/-- The latches, written by every reception before any check (10_state R35, 43_scheduler_fsm R189). -/
def latchStatus (rssi lq : Byte) (s : State) : State :=
  { s with lastRssi := rssi, lastLqi := lqiOf lq, lastCrc := crcOkOf lq, lastV := true }

/-- `RXTO_ACT <- 0`; no effect in a variant without the pair (10_state R34). -/
def stopTimeout (s : State) : State :=
  if s.cfg.hasRxto then { s with rxtoAct := false } else s

/-- Buffer fill on a reception of `n` bytes (43_scheduler_fsm R190): the bytes go in if they fit; a length
outside the bounds leaves no defined frame. -/
def fillBuffer (n : Nat) (frame : Bytes) (s : State) : State :=
  let s := if n ≤ s.cfg.maxFrame then { s with fb := s.fb.writeBytes 0 frame } else s
  if s.cfg.hdrLen ≤ n ∧ n ≤ s.cfg.maxFrame then
    { s with len := BitVec.ofNat 8 (n - s.cfg.hdrLen), fbtag := .rx }
  else { s with fbtag := .none }

/-- What an `EDGE_RX` step has done before the first check (43_scheduler_fsm R189, R190). -/
def receive (e : Envelope) (s : State) : State :=
  fillBuffer e.n e.frame (completionEntry (stopTimeout (latchStatus e.rssi e.lq s)))

/-- The length and CRC checks on a filled buffer, then the rest (43_scheduler_fsm R189). -/
def checkFrame (e : Envelope) (s : State) : Res :=
  match rxCheckOp s.cfg e.n (crcOkOf e.lq) with
  | some c => .next (rejectFrame c s)
  | none => processFrame s

/-- `EDGE_RX(env)` (43_scheduler_fsm R189). -/
def receiveDone (env : Bytes) (s : State) : Res :=
  if s.st ≠ .listening then .refused .uSpuriousEvent
  else
    match parseEnvelope env with
    | none => .refused .uMalformedEnv
    | some e => checkFrame e (receive e s)

/-- The zero-length completion callback of the role (43_scheduler_fsm R188). -/
def cbTxDone (s : State) : State :=
  match s.cfg.role with
  | .ep => emit (.cbFrameCompleteEp [] 0#8) s
  | .gw => emit (.cbFrameCompleteGw false [] 0#8) s

/-- `EDGE_TX` (43_scheduler_fsm R188). -/
def transmitDone (s : State) : Res :=
  if s.st ≠ .transmitting then .refused .uSpuriousEvent
  else
    let s := completionEntry s
    bindOutcome (readFbByte s s.cfg.offCtl) fun c =>
    .next (if ctlDrq c then armRx s else idlePolicy (cbTxDone s))

/-! ## Tick and timeout -/

/-- `TimeoutHandler()` (43_scheduler_fsm R200). -/
def timeoutOp (s : State) : State :=
  let s := { failWith .timeout s with busy := false, st := .idle, fbtag := .none }
  idlePolicy (if s.tocb then emit .cbTimeout s else s)

/-- `TICK` (43_scheduler_fsm R199, R201). -/
def tickOp (s : State) : State :=
  if s.cfg.hasRxto && s.rxtoAct then
    if s.rxto - 1#16 = 0#16 then timeoutOp { s with rxto := s.rxto - 1#16, rxtoAct := false }
    else { s with rxto := s.rxto - 1#16 }
  else s

/-! ## Delivery of an input -/

/-- The state in which the step of request `r` runs: its answers loaded, the host's stores done, the trace of
the last step cleared (00_scope R13, log 3). -/
def deliver (r : Request) (rest : List Request) (s : State) : State :=
  { s with
    pending := rest, phyAccept := r.phyAccept, lrAccept := r.lrAccept, hm := s.hm.writeCells r.hostWrites,
    out := [], result := none, cause := none }

/-- The refusal of a code that is no input's: "an operation code not in 30_encoding.md rule R104, or a `UOP`
code given as an input" (60_exceptions R277; `U_PREINIT` comes first, R286). -/
def refuseCode (s : State) : Refusal := if s.inited then .uIllegalCode else .uPreinit

/-- The refusal of a word that decodes to no operation (30_encoding R107; order of 60_exceptions R286, log 14).
The micro-operation codes are `0xC0` and up (30_encoding R104). -/
def refuseWord (s : State) (e : DecodeError) : Refusal :=
  match e with
  | .illegalCode => refuseCode s
  | .badOperand code => if 0xC0#8 ≤ code then refuseCode s else (inputRefusal s code).getD .uBadOperand

end Sys2Proof.Machine
end

