-- ==== Sys2Proof/Machine/Facade.lean ====
section
/-! DEFINITION. The façade operations, each its expansion into core operations (45_facade_and_status R241 to
R247). -/

namespace Sys2Proof.Machine

/-- `F_INIT` (R241): `INIT`, then true. -/
def execFInit (pan addr : Bytes) (hook lrcb tocb : Bool) (s : State) : Res :=
  admitOp 0x40#8 (.fInit pan addr hook lrcb tocb) s
    (bindOutcome (initialise pan addr hook lrcb tocb s) (ret (.bool true)))

/-- `CONNECT` (R242): true where a link exists; else a link request whose result is discarded, then false. -/
def execConnect (p : Bytes) (s : State) : Res :=
  admitOp 0x41#8 (.connect p) s
    (if linkExists s then ret (.bool true) s
     else bindOutcome (sendFrame .linkReq true p s) fun r => ret (.bool false) r.2)

/-- `DISCONNECT` (R243): `LINKDESTROY`. -/
def execDisconnect (s : State) : Res :=
  admitOp 0x42#8 .disconnect s (ret .unit (linkDestroy s))

/-- `SIMPLETRANSFER` (R244). -/
def execSimpletransfer (p : Bytes) (s : State) : Res :=
  admitOp 0x43#8 (.simpletransfer p) s (sendResult .data false p s)

/-- `TRANSFER` (R245): false without a link. -/
def execTransfer (p : Bytes) (s : State) : Res :=
  admitOp 0x44#8 (.transfer p) s
    (if linkExists s then sendResult .data true p s else ret (.bool false) s)

/-- `LOADDATARESPONSE` (R246): `SETDRSP`. -/
def execLoaddataresponse (ptr : Nat) (len : Byte) (s : State) : Res :=
  admitOp 0x45#8 (.loaddataresponse ptr len) s (ret .unit (stageResponse ptr len s))

/-- `F_BUSY` (R247). -/
def execFBusy (s : State) : Res :=
  admitOp 0x46#8 .fBusy s (ret (.bool s.busy) s)

end Sys2Proof.Machine
end

