-- ==== Sys2Proof/Machine/FrameClass.lean ====
section
/-! DEFINITION. The frame classes of a received control byte (30_encoding R106, format CTL): the frame in `FB`,
past the length and CRC checks, has this control byte; it goes through the role's filter and, if accepted, to
its handler (42_frame_validate R166 to R168, 43_scheduler_fsm R194 to R197; log 6). -/

namespace Sys2Proof.Machine

/-- `F_DATA_EP`: Data, End Point origin; a Gateway dispatches it (R194). -/
def execFDataEp (rsv : BitVec 4) (drq : Bool) (s : State) : Res :=
  admitFrame (.fDataEp rsv drq) s
    (bindOutcome (frameArrived (ctlOf 0#2 rsv drq false) s) (ret .unit))

/-- `F_DATA_GW`: Data, Gateway origin; an End Point dispatches it (R194). -/
def execFDataGw (rsv : BitVec 4) (drq : Bool) (s : State) : Res :=
  admitFrame (.fDataGw rsv drq) s
    (bindOutcome (frameArrived (ctlOf 0#2 rsv drq true) s) (ret .unit))

/-- `F_LINKREQ_EP`: Link-Request, End Point origin; a Gateway dispatches it (R197). -/
def execFLinkreqEp (rsv : BitVec 4) (drq : Bool) (s : State) : Res :=
  admitFrame (.fLinkreqEp rsv drq) s
    (bindOutcome (frameArrived (ctlOf s.cfg.linkreqCode rsv drq false) s) (ret .unit))

/-- `F_LINKREQ_GW`: Link-Request, Gateway origin; an End Point dispatches it (R196). -/
def execFLinkreqGw (rsv : BitVec 4) (drq : Bool) (s : State) : Res :=
  admitFrame (.fLinkreqGw rsv drq) s
    (bindOutcome (frameArrived (ctlOf s.cfg.linkreqCode rsv drq true) s) (ret .unit))

/-- `F_RESERVED`: a type that is neither Data nor Link-Request; rejected after the role's filter (R168). -/
def execFReserved (ty : BitVec 2) (rsv : BitVec 4) (drq mode : Bool) (s : State) : Res :=
  admitFrame (.fReserved ty rsv drq mode) s
    (bindOutcome (frameArrived (ctlOf ty rsv drq mode) s) (ret .unit))

end Sys2Proof.Machine
end

