-- ==== Sys2Proof/Machine/Micro.lean ====
section
/-! DEFINITION. The micro-operations as operations of their own (30_encoding R104, format UOP). No input names
one (R107): `step` refuses their codes, and the events and commands run them inline (log 5). -/

namespace Sys2Proof.Machine

/-- `FrameBuild` (41_frame_build R147). -/
def execFrameBuild (ty : FrameType) (drq : Bool) (p : Bytes) (s : State) : Res :=
  admitOp 0xC0#8 (.frameBuild ty drq p) s (bindOutcome (buildFrame ty drq p s) (ret .unit))

/-- `ValidateEP` (42_frame_validate R166). -/
def execValidateEp (s : State) : Res :=
  admitOp 0xC1#8 .validateEp s (bindOutcome (readHeader s) fun h => ret (.verdict (validateEpOp s h)) s)

/-- `ValidateGW` (42_frame_validate R167). -/
def execValidateGw (s : State) : Res :=
  admitOp 0xC2#8 .validateGw s (bindOutcome (readHeader s) fun h => ret (.verdict (validateGwOp s h)) s)

/-- `DispatchData` (43_scheduler_fsm R194, R195). -/
def execDispatchData (s : State) : Res :=
  admitOp 0xC3#8 .dispatchData s (bindOutcome (dispatchDataOp s) (ret .unit))

/-- `DispatchLinkRequest` (43_scheduler_fsm R196, R197). -/
def execDispatchLinkRequest (s : State) : Res :=
  admitOp 0xC4#8 .dispatchLinkRequest s (bindOutcome (dispatchLinkOp s) (ret .unit))

/-- `FrameIdle` (43_scheduler_fsm R198). -/
def execFrameIdle (s : State) : Res :=
  admitOp 0xC5#8 .frameIdle s (ret .unit (idlePolicy s))

/-- `TimeoutHandler` (43_scheduler_fsm R200). -/
def execTimeoutHandler (s : State) : Res :=
  admitOp 0xC6#8 .timeoutHandler s (ret .unit (timeoutOp s))

/-- `Send` (43_scheduler_fsm R183). -/
def execUSend (ty : FrameType) (drq : Bool) (p : Bytes) (s : State) : Res :=
  admitOp 0xC7#8 (.uSend ty drq p) s (sendResult ty drq p s)

/-- `ArmReceive` (43_scheduler_fsm R181). -/
def execArmReceive (s : State) : Res :=
  admitOp 0xC8#8 .armReceive s (ret .unit (armRx s))

/-- `RxCheck` (42_frame_validate R161, R162). -/
def execRxCheck (n : Byte) (crcOk : Bool) (s : State) : Res :=
  admitOp 0xC9#8 (.rxCheck n crcOk) s (ret (.verdict (rxCheckOp s.cfg n.toNat crcOk)) s)

/-- `Classify` (42_frame_validate R163). -/
def execClassify (s : State) : Res :=
  admitOp 0xCA#8 .classify s
    (bindOutcome (readFbByte s s.cfg.offCtl) fun c => ret (.frameClass (classifyCtl s.cfg c)) s)

end Sys2Proof.Machine
end

