-- ==== Sys2Proof/Machine/Registry.lean ====
section
/-! DEFINITION. The Addressing Registry operations (40_addressing_registry). -/

namespace Sys2Proof.Machine

/-- `INIT` (R120). -/
def execInit (pan addr : Bytes) (hook lrcb tocb : Bool) (s : State) : Res :=
  admitOp 0x00#8 (.init pan addr hook lrcb tocb) s
    (bindOutcome (initialise pan addr hook lrcb tocb s) (ret .unit))

/-- `ISBCAST` (R121). -/
def execIsbcast (a : Bytes) (s : State) : Res :=
  admitOp 0x01#8 (.isbcast a) s (ret (.bool (isBcast s.cfg a)) s)

/-- `LINKEXISTS` (R122). -/
def execLinkexists (s : State) : Res :=
  admitOp 0x02#8 .linkexists s (ret (.bool (linkExists s)) s)

/-- `LINKESTABLISH` (R123). -/
def execLinkestablish (p r : Bytes) (s : State) : Res :=
  admitOp 0x03#8 (.linkestablish p r) s (ret .unit (linkEstablish p r s))

/-- `LINKDESTROY` (R124). -/
def execLinkdestroy (s : State) : Res :=
  admitOp 0x04#8 .linkdestroy s (ret .unit (linkDestroy s))

/-- `COMPARE` (R130). -/
def execCompare (a b : Bytes) (s : State) : Res :=
  admitOp 0x05#8 (.compare a b) s (ret (.order (compareBytes a b)) s)

end Sys2Proof.Machine
end

