-- ==== Sys2Proof/Machine/Scheduler.lean ====
section
/-! DEFINITION. The scheduler's host commands and the interrupt events (43_scheduler_fsm). -/

namespace Sys2Proof.Machine

/-- `LISTEN` (R180). -/
def execListen (s : State) : Res :=
  admitOp 0x10#8 .listen s
    (if s.busy then ret (.bool false) (failWith .contention s) else ret (.bool true) (armRx s))

/-- `SEND` (R182). -/
def execSend (ty : FrameType) (drq : Bool) (p : Bytes) (s : State) : Res :=
  admitOp 0x11#8 (.send ty drq p) s (sendResult ty drq p s)

/-- `SETDRSP` (R185). -/
def execSetdrsp (ptr : Nat) (len : Byte) (s : State) : Res :=
  admitOp 0x12#8 (.setdrsp ptr len) s (ret .unit (stageResponse ptr len s))

/-- `BUSY` (R186). -/
def execBusy (s : State) : Res :=
  admitOp 0x13#8 .busy s (ret (.bool s.busy) s)

/-- `EDGE_TX` (R188). -/
def execEdgeTx (s : State) : Res :=
  admitOp 0x80#8 .edgeTx s (bindOutcome (transmitDone s) retStatus)

/-- `EDGE_RX` (R189). -/
def execEdgeRx (env : Bytes) (s : State) : Res :=
  admitOp 0x81#8 (.edgeRx env) s (bindOutcome (receiveDone env s) retStatus)

/-- `TICK` (R199). -/
def execTick (s : State) : Res :=
  admitOp 0x82#8 .tick s (ret .unit (tickOp s))

end Sys2Proof.Machine
end

