-- ==== Sys2Proof/Machine/Status.lean ====
section
/-! DEFINITION. The status queries (45_facade_and_status R248 to R254). None changes a register. -/

namespace Sys2Proof.Machine

/-- `GETPAN` (R248). -/
def execGetpan (s : State) : Res :=
  admitOp 0x20#8 .getpan s (ret (.bytes s.panid) s)

/-- `GETLINK` (R249). -/
def execGetlink (s : State) : Res :=
  admitOp 0x21#8 .getlink s (ret (.bool (linkExists s)) s)

/-- `GETLASTSRC` (R250): the source field of the frame in `FB`. -/
def execGetlastsrc (s : State) : Res :=
  admitOp 0x22#8 .getlastsrc s (bindOutcome (readFb s s.cfg.offSrc s.cfg.addrW) fun b => ret (.bytes b) s)

/-- `GETLASTSEQ` (R251): the sequence field of the frame in `FB`. -/
def execGetlastseq (s : State) : Res :=
  admitOp 0x23#8 .getlastseq s (bindOutcome (readFbByte s s.cfg.offSeq) fun b => ret (.byte b) s)

/-- A read of a reception latch: refused while no reception has filled it (R252). -/
def readLatch (r : Result) (s : State) : Res :=
  if s.lastV then ret r s else .refused .uLatchUndefined

/-- `GETRSSI` (R252). -/
def execGetrssi (s : State) : Res :=
  admitOp 0x24#8 .getrssi s (readLatch (.byte s.lastRssi) s)

/-- `GETLQI` (R253): 7 bits, zero-extended to a byte. -/
def execGetlqi (s : State) : Res :=
  admitOp 0x25#8 .getlqi s (readLatch (.byte (s.lastLqi.setWidth 8)) s)

/-- `GETCRC` (R254). -/
def execGetcrc (s : State) : Res :=
  admitOp 0x26#8 .getcrc s (readLatch (.bool s.lastCrc) s)

end Sys2Proof.Machine
end

