-- ==== Sys2Proof/Machine/Dispatch.lean ====
section
/-! DEFINITION. One arm per operation, each a direct call of its meaning. -/

namespace Sys2Proof.Machine

def exec (i : Instr) (s : State) : Host.Outcome State Fault Refusal :=
  match i with
  | .init pan addr hook lrcb tocb => Sys2Proof.Machine.execInit pan addr hook lrcb tocb s
  | .isbcast a => Sys2Proof.Machine.execIsbcast a s
  | .linkexists => Sys2Proof.Machine.execLinkexists s
  | .linkestablish p r => Sys2Proof.Machine.execLinkestablish p r s
  | .linkdestroy => Sys2Proof.Machine.execLinkdestroy s
  | .compare a b => Sys2Proof.Machine.execCompare a b s
  | .listen => Sys2Proof.Machine.execListen s
  | .send ty drq p => Sys2Proof.Machine.execSend ty drq p s
  | .setdrsp ptr len => Sys2Proof.Machine.execSetdrsp ptr len s
  | .busy => Sys2Proof.Machine.execBusy s
  | .getpan => Sys2Proof.Machine.execGetpan s
  | .getlink => Sys2Proof.Machine.execGetlink s
  | .getlastsrc => Sys2Proof.Machine.execGetlastsrc s
  | .getlastseq => Sys2Proof.Machine.execGetlastseq s
  | .getrssi => Sys2Proof.Machine.execGetrssi s
  | .getlqi => Sys2Proof.Machine.execGetlqi s
  | .getcrc => Sys2Proof.Machine.execGetcrc s
  | .fInit pan addr hook lrcb tocb => Sys2Proof.Machine.execFInit pan addr hook lrcb tocb s
  | .connect p => Sys2Proof.Machine.execConnect p s
  | .disconnect => Sys2Proof.Machine.execDisconnect s
  | .simpletransfer p => Sys2Proof.Machine.execSimpletransfer p s
  | .transfer p => Sys2Proof.Machine.execTransfer p s
  | .loaddataresponse ptr len => Sys2Proof.Machine.execLoaddataresponse ptr len s
  | .fBusy => Sys2Proof.Machine.execFBusy s
  | .edgeTx => Sys2Proof.Machine.execEdgeTx s
  | .edgeRx env => Sys2Proof.Machine.execEdgeRx env s
  | .tick => Sys2Proof.Machine.execTick s
  | .frameBuild ty drq p => Sys2Proof.Machine.execFrameBuild ty drq p s
  | .validateEp => Sys2Proof.Machine.execValidateEp s
  | .validateGw => Sys2Proof.Machine.execValidateGw s
  | .dispatchData => Sys2Proof.Machine.execDispatchData s
  | .dispatchLinkRequest => Sys2Proof.Machine.execDispatchLinkRequest s
  | .frameIdle => Sys2Proof.Machine.execFrameIdle s
  | .timeoutHandler => Sys2Proof.Machine.execTimeoutHandler s
  | .uSend ty drq p => Sys2Proof.Machine.execUSend ty drq p s
  | .armReceive => Sys2Proof.Machine.execArmReceive s
  | .rxCheck n crcOk => Sys2Proof.Machine.execRxCheck n crcOk s
  | .classify => Sys2Proof.Machine.execClassify s
  | .fDataEp rsv drq => Sys2Proof.Machine.execFDataEp rsv drq s
  | .fDataGw rsv drq => Sys2Proof.Machine.execFDataGw rsv drq s
  | .fLinkreqEp rsv drq => Sys2Proof.Machine.execFLinkreqEp rsv drq s
  | .fLinkreqGw rsv drq => Sys2Proof.Machine.execFLinkreqGw rsv drq s
  | .fReserved ty rsv drq mode => Sys2Proof.Machine.execFReserved ty rsv drq mode s

end Sys2Proof.Machine
end

