-- ==== Sys2Proof/Machine/Fetch.lean ====
section
/-! DEFINITION. Fetching the next input: which word is delivered, how it is read, and what a word that is no
input ends in. -/

namespace Sys2Proof.Machine

/-- Deliver one word: decode it and run the operation; a word that is no input is refused
(00_scope R15, 30_encoding R107). -/
def stepWord (w : Bytes) (s : State) : Res :=
  match decode s.cfg w with
  | .ok i => if i.isInput then exec i s else .refused (refuseCode s)
  | .error e => .refused (refuseWord s e)

/-- Process one input. A configuration outside 00_scope R8 is not a BLMAC; with no input pending the machine
waits (10_state R43); else the first pending input is delivered (log 3). -/
def nextInput (s : State) : Res :=
  if s.cfg.valid then
    match s.pending with
    | [] => .next s
    | r :: rest => stepWord r.word (deliver r rest s)
  else .refused .notBlmac

/-- An opcode-table word as an input: the environment answers that come with it are `true`, and the host has
stored nothing. -/
def tableRequest (c : Config) (nbits w : Nat) : Request :=
  { word := tableWord c nbits w, phyAccept := true, lrAccept := true, hostWrites := [] }

end Sys2Proof.Machine
end

