-- ==== Sys2Proof/Machine/Step.lean ====
section
/-! DEFINITION. One step: one input, processed to completion (00_scope R13). -/

namespace Sys2Proof.Machine

/-- One step (00_scope R13). -/
def step (s : State) : Host.Outcome State Fault Refusal := nextInput s

/-- `s` with an opcode-table word as its next input, and nothing else changed. -/
def State.withFetchWord (s : State) (nbits w : Nat) : State :=
  { s with pending := tableRequest s.cfg nbits w :: s.pending }

end Sys2Proof.Machine
end

