-- ==== Sys2Proof/Safety.lean ====
section
/-! DEFINITION. What the claims are about: the invariants the spec states between steps (10_state R39), and
the terms the statements use. -/

namespace Sys2Proof.Machine

/-- Every address of a byte space lies below `n`. -/
def Memory.below (m : Memory) (n : Nat) : Bool := m.all fun c => decide (c.1 < n)

/-- `RXTO_ACT` as the rules read it: 0 in a variant without the pair (10_state R34). -/
def timeoutPending (s : State) : Bool := s.cfg.hasRxto && s.rxtoAct

/-- The address registers the role has have their widths (10_state R22, R23, R24; 00_scope R11). -/
structure FieldsSized (s : State) : Prop where
  pan : s.panid.length = s.cfg.panW
  loc : s.localAddr.length = s.cfg.addrW
  rem : s.cfg.role = .ep → s.remote.length = s.cfg.addrW

/-- `FB` holds the frame with header `h` and payload `p` (20_memory R62, 10_state R32). -/
structure HoldsFrame (s : State) (h : Header) (p : Bytes) : Prop where
  tag : s.fbtag = .tx ∨ s.fbtag = .rx
  panW : h.pan.length = s.cfg.panW
  dstW : h.dst.length = s.cfg.addrW
  srcW : h.src.length = s.cfg.addrW
  len : s.len.toNat = p.length
  fits : s.cfg.hdrLen + p.length ≤ s.cfg.maxFrame
  bytes : s.fb.readBytes 0 (s.cfg.hdrLen + p.length) = some (headerBytes h ++ p)

/-- The invariants of an initialised instance (10_state R39 (I1) to (I5), (I8), with the widths of R20 and the
PAN ids R120 admits). (I8) is stated as what every step keeps: a Gateway that is `Idle` has never armed a
receive nor built a frame. -/
structure Working (s : State) : Prop where
  i1 : s.busy = true ↔ s.st ≠ .idle
  i2 : timeoutPending s = true → s.st = .listening ∧ s.rxto ≠ 0#16
  i3 : s.st = .listening ↔ s.fbtag = .rxArmed
  i4 : s.st = .transmitting → s.fbtag = .tx
  i5 : s.len.toNat ≤ s.cfg.maxPayload
  i8 : s.cfg.role = .gw → s.st = .idle → s.fbtag = .none
  panW : s.panid.length = s.cfg.panW
  locW : s.localAddr.length = s.cfg.addrW
  remW : s.cfg.role = .ep → s.remote.length = s.cfg.addrW
  gwPan : s.cfg.role = .gw → isBcast s.cfg s.panid = false
  fixedPan : s.cfg.role = .ep → s.fixed = true → isBcast s.cfg s.panid = false
  frame : frameDefined s = true → (s.fb.readBytes 0 (s.cfg.hdrLen + s.len.toNat)).isSome

/-- What holds between steps: the configuration is a BLMAC's (00_scope R8), the byte spaces are in canonical
form, `FB` has no byte beyond `MAX_FRAME` (20_memory R61), and once initialised the instance is `Working`. -/
structure Inv (s : State) : Prop where
  cfg : s.cfg.valid = true
  fbWf : Memory.wf s.fb = true
  fbBelow : Memory.below s.fb s.cfg.maxFrame = true
  hmWf : Memory.wf s.hm = true
  nvWf : Memory.wf s.nv = true
  pendingWf : ∀ r ∈ s.pending, Memory.wf r.hostWrites = true
  working : s.inited = true → Working s

/-! ## The rules' effects, as the statements name them -/

/-- `m` is `m0` with the bytes `bs` stored from address `off` on: every other address reads as before. -/
def Overlaid (m0 : Memory) (off : Nat) (bs : Bytes) (m : Memory) : Prop :=
  ∀ a, m.read a = if off ≤ a ∧ a < off + bs.length then bs[a - off]? else m0.read a

/-- `(code(type) << 6) | (drq << 1) | mode` (41_frame_build R144, 30_encoding R95). -/
def stampedCtl (c : Config) (ty : FrameType) (drq : Bool) : Byte :=
  (match ty with | .data => 0#8 | .linkReq => c.linkreqCode.setWidth 8 <<< 6) |||
  (if drq then 2#8 else 0#8) |||
  (match c.role with | .ep => 0#8 | .gw => 1#8)

/-- `PANID ++ d ++ LOCAL ++ [ctl] ++ [seq] ++ P` (41_frame_build R149). -/
def builtFrame (s : State) (d : Bytes) (ty : FrameType) (drq : Bool) (p : Bytes) : Bytes :=
  s.panid ++ d ++ s.localAddr ++ [stampedCtl s.cfg ty drq] ++ [s.seq] ++ p

/-- The registers after the build of a frame with payload `p`, `FB` holding `m` (41_frame_build R147). -/
def built (s : State) (p : Bytes) (m : Memory) : State :=
  { s with fb := m, len := BitVec.ofNat 8 p.length, seq := s.seq + 1#8, fbtag := .tx }

/-- The state after `PHY_TX(b)` of a built frame and the Physical Bridge's answer (43_scheduler_fsm R183, R184). -/
def answered (s : State) (b : Bytes) : State :=
  if s.phyAccept then
    { s with busy := true, st := .transmitting, radio := .active, out := s.out ++ [.phyTx b] }
  else { s with cause := some .phyReject, out := s.out ++ [.phyTx b] }

/-- The state after a receive is armed (43_scheduler_fsm R181); no byte of `FB` has a value (log 7). -/
def armed (s : State) : State :=
  { s with
    busy := true, st := .listening, fbtag := .rxArmed, radio := .active, fb := [],
    rxto := if s.cfg.hasRxto then BitVec.ofNat 16 s.cfg.rxtoTicks else s.rxto,
    rxtoAct := if s.cfg.hasRxto then true else s.rxtoAct,
    out := s.out ++ [.phyArmRx] }

/-- The state after the idle policy (43_scheduler_fsm R198). -/
def idled (s : State) : State :=
  match s.cfg.role with
  | .ep => { s with radio := .lowPower, out := s.out ++ [.phyLowPower] }
  | .gw => armed { s with out := s.out ++ [.phyLowPower] }

/-- `Record()` of the registers (30_encoding R102). -/
def record (s : State) : Bytes := [if s.fixed then 1#8 else 0#8] ++ s.panid ++ s.localAddr ++ s.remote

/-- The store after the record of `s` has been written, where a hook is present (40_addressing_registry R125;
the store is the model's own shadow, log 12). -/
def persisted (s : State) : State :=
  if s.hook then
    { s with nv := s.nv.writeBytes 0 (record s), out := s.out ++ [.backupWrite (record s)] }
  else s

/-- The state after `LINKESTABLISH(p, r)` on an End Point (40_addressing_registry R123). -/
def linked (p r : Bytes) (s : State) : State :=
  if s.fixed then persisted { s with remote := r }
  else
    persisted { s with
      panid := p, remote := r, afEn := true, afByte := p.getLastD 0#8,
      out := s.out ++ [.afEnable (p.getLastD 0#8)] }

/-- The state after `LINKDESTROY` on an End Point (40_addressing_registry R124). -/
def unlinked (s : State) : State :=
  if s.fixed then persisted { s with remote := List.replicate s.cfg.addrW s.cfg.bcast }
  else
    persisted { s with
      panid := List.replicate s.cfg.panW s.cfg.bcast, remote := List.replicate s.cfg.addrW s.cfg.bcast,
      afEn := false, out := s.out ++ [.afDisable] }

/-- An End Point's link exists: some byte of `REMOTE` is not the broadcast byte (40_addressing_registry R122). -/
def LinkUp (s : State) : Prop := ∃ b ∈ s.remote, b ≠ s.cfg.bcast

/-- The state after an `EDGE_RX` has latched the status bytes and taken a frame of `n` bytes, `FB` holding `m`,
before any check: `BUSY` and `ST` are cleared (43_scheduler_fsm R189, R190). -/
def received (s : State) (n : Nat) (rssi lq : Byte) (m : Memory) : State :=
  { s with
    lastRssi := rssi, lastLqi := BitVec.ofNat 7 lq.toNat, lastCrc := decide (128 ≤ lq.toNat), lastV := true,
    rxtoAct := if s.cfg.hasRxto then false else s.rxtoAct, busy := false, st := .idle, fb := m,
    len := if s.cfg.hdrLen ≤ n ∧ n ≤ s.cfg.maxFrame then BitVec.ofNat 8 (n - s.cfg.hdrLen) else s.len,
    fbtag := if s.cfg.hdrLen ≤ n ∧ n ≤ s.cfg.maxFrame then .rx else .none }

/-- The state after an edge event has returned status byte `v` (any value; log 13). -/
def returned (v : Byte) (s : State) : State :=
  { s with result := some (.status v), freeCtr := s.freeCtr + 1 }

/-- The result of a command. -/
def answering (r : Result) (s : State) : State := { s with result := some r }

/-- The header fields have the widths of the configuration (30_encoding R90). -/
structure Header.Fits (h : Header) (c : Config) : Prop where
  pan : h.pan.length = c.panW
  dst : h.dst.length = c.addrW
  src : h.src.length = c.addrW

/-- The envelope of a frame with header `h` and payload `p` (30_encoding R100). -/
def envelopeOf (h : Header) (p : Bytes) (rssi lq : Byte) : Bytes :=
  [BitVec.ofNat 8 (headerBytes h ++ p).length] ++ (headerBytes h ++ p) ++ [rssi] ++ [lq]

/-- `q` may be the staged reply: it has its length, and agrees with host memory at every byte the host has stored
(20_memory R66; the other bytes are any value, log 10). -/
structure StagedReply (s : State) (q : Bytes) : Prop where
  len : q.length = s.drspLen.toNat
  told : ∀ k b, k < q.length → s.hm.read (s.drspPtr + k) = some b → q[k]? = some b

/-- A Gateway that receives a frame with header `h` answers it, if the Physical Bridge takes the answer: the frame
passes the filter (42_frame_validate R167), and it is Data that asks and finds a reply staged that fits
(43_scheduler_fsm R194, R195), or a Link-Request that is accepted (R197), the callback answering `acc`. -/
def GatewayAnswers (s : State) (h : Header) (acc : Bool) : Prop :=
  h.ctl.getLsbD 0 = false ∧
  (h.dst = s.localAddr ∨ ∀ b ∈ h.dst, b = s.cfg.bcast) ∧ (h.pan = s.panid ∨ ∀ b ∈ h.pan, b = s.cfg.bcast) ∧
  ((h.ctl.extractLsb' 6 2 = 0#2 ∧ h.ctl.getLsbD 1 = true ∧ s.drspLen ≠ 0#8 ∧
      s.drspLen.toNat + s.cfg.hdrLen ≤ s.cfg.maxFrame) ∨
    (h.ctl.extractLsb' 6 2 = s.cfg.linkreqCode ∧ (s.lrcb = false ∨ acc = true)))

/-- The frame in `FB` was sent with data request `drq` (43_scheduler_fsm R188). -/
def SentRequest (s : State) (drq : Bool) : Prop :=
  ∃ c, s.fb.read (s.cfg.panW + 2 * s.cfg.addrW) = some c ∧ c.getLsbD 1 = drq

/-- The frames handed to the Physical Bridge, in an action list. -/
def framesSent : List Action → List Bytes
  | [] => []
  | .phyTx b :: as => b :: framesSent as
  | _ :: as => framesSent as

/-- `n` ticks in a row (43_scheduler_fsm R199, R201). -/
def ticks : Nat → State → Res
  | 0, s => .next s
  | n + 1, s => bindOutcome (exec .tick s) (ticks n)

/-- The state with the radio and address-filter shadows blanked (10_state R36, R37). -/
def blankShadows (s : State) : State := { s with radio := .unknown, afEn := false, afByte := 0#8 }

/-- An outcome seen through a function of its next state. -/
def mapOutcome (f : State → State) : Res → Res
  | .next s => .next (f s)
  | .fault r => .fault r
  | .refused r => .refused r

end Sys2Proof.Machine
end

