-- ==== Sys2Proof/Certificates/Slice0/Obligations.lean ====
section
/-! DEFINITION. The statements for the provers. Each docstring names the rule or section of spec/ that the
statement formalises, and the log entry where a clause is the model's own choice. -/

open Sys2Proof Sys2Proof.Machine

/-! ## Encoding -/

/-- DECODE AND ENCODE AGREE (30_encoding section 4, R105): the command word of every well-formed operation that fits
the format decodes to that operation, with every operand. The layout of a micro-operation's operands and the pointer
bytes are the model's own (log 5, log 11). -/
def Obligations.DecodeInvertsEncode : Prop :=
  ∀ (c : Config) (i : Instr), c.valid = true → i.encodable c = true → i.isFrameClass = false →
    decode c (encode c i) = .ok i

/-- No bit of a command word is dropped: a word that decodes is the encoding of what it decodes to
(30_encoding section 4, R105, R107). -/
def Obligations.EncodeInvertsDecode : Prop :=
  ∀ (c : Config) (w : Bytes) (i : Instr), decode c w = .ok i → encode c i = w

/-- Every control byte is of exactly one frame class, and the class with its field and ignored bits is the byte; in the
reference configuration the classes are those of the masks `0xC1` and `0x80` (30_encoding section 4, R106). -/
def Obligations.ControlByteHasOneFrameClass : Prop :=
  (∀ (c : Config), c.valid = true →
    (∀ b : Byte, encode c (decodeCtl c b) = [b] ∧ (decodeCtl c b).isFrameClass = true ∧
      (decodeCtl c b).wellFormed c = true) ∧
    (∀ i : Instr, i.isFrameClass = true → i.wellFormed c = true → ∃ b, encode c i = [b] ∧ decodeCtl c b = i)) ∧
  (∀ b : Byte,
    ((∃ r d, decodeCtl Config.cfg1 b = .fDataEp r d) ↔ b &&& 0xC1#8 = 0x00#8) ∧
    ((∃ r d, decodeCtl Config.cfg1 b = .fDataGw r d) ↔ b &&& 0xC1#8 = 0x01#8) ∧
    ((∃ r d, decodeCtl Config.cfg1 b = .fLinkreqEp r d) ↔ b &&& 0xC1#8 = 0x40#8) ∧
    ((∃ r d, decodeCtl Config.cfg1 b = .fLinkreqGw r d) ↔ b &&& 0xC1#8 = 0x41#8) ∧
    ((∃ t r d m, decodeCtl Config.cfg1 b = .fReserved t r d m) ↔ b &&& 0x80#8 = 0x80#8))

/-- Words written out by hand (95_test_vectors section 2.12) decode to the operations they stand for. -/
def Obligations.WrittenOutWordsDecode : Prop :=
  decode Config.cfg1 [0x00#8, 0x07#8, 0x22#8, 0x02#8] = .ok (.init [0x07#8] [0x22#8] false true false) ∧
  decode Config.cfg1 [0x11#8, 0x42#8, 0x00#8] = .ok (.send .linkReq true []) ∧
  decode Config.cfg1 [0x12#8, 0x20#8, 0x00#8, 0x02#8] = .ok (.setdrsp 0x2000 0x02#8) ∧
  decode Config.cfg1 [0x22#8] = .ok .getlastsrc ∧
  decode Config.cfg1 [0x44#8, 0x01#8, 0x01#8] = .ok (.transfer [0x01#8]) ∧
  decode Config.cfg1 [0x82#8] = .ok .tick ∧
  decode Config.cfg1 [0xCA#8] = .ok .classify ∧
  decodeCtl Config.cfg1 0x43#8 = .fLinkreqGw 0#4 true

/-! ## The step -/

/-- A STEP RUNS THE DECODED OPERATION (00_scope R13, R15): when the word of the first pending input decodes to an
input operation `i`, the step is `exec i` in the state where the input has been taken off, its answers and the host's
stores are in place, and the trace of the last step is cleared. With nothing pending the machine waits
(the queue is the model's own form of delivery, log 3 and log 4). -/
def Obligations.StepRunsThePendingInput : Prop :=
  (∀ (s : State) (r : Request) (rest : List Request) (i : Instr),
    s.cfg.valid = true → s.pending = r :: rest → decode s.cfg r.word = .ok i → i.isInput = true →
      step s = exec i { s with
        pending := rest, phyAccept := r.phyAccept, lrAccept := r.lrAccept,
        hm := s.hm.writeCells r.hostWrites, out := [], result := none, cause := none }) ∧
  (∀ s : State, s.cfg.valid = true → s.pending = [] → step s = .next s)

/-- What is no input is refused (30_encoding section 4, R107; 60_exceptions sections 1 and 3, R277, R286): a code
outside the table, a micro-operation's code, and a word whose operands do not have its code's layout. Before `INIT` the cause is
`U_PREINIT`, but for a wrong layout of the four codes that are admitted then (the order of the causes is log 14, the
cause before `INIT` log 24). -/
def Obligations.WordsThatAreNoInputAreRefused : Prop :=
  (∀ (c : Config) (code : Byte) (ops : Bytes), decode c (code :: ops) = .error .illegalCode ↔
    code ∉ [0x00#8, 0x01#8, 0x02#8, 0x03#8, 0x04#8, 0x05#8, 0x10#8, 0x11#8, 0x12#8, 0x13#8, 0x20#8, 0x21#8,
      0x22#8, 0x23#8, 0x24#8, 0x25#8, 0x26#8, 0x40#8, 0x41#8, 0x42#8, 0x43#8, 0x44#8, 0x45#8, 0x46#8, 0x80#8,
      0x81#8, 0x82#8, 0xC0#8, 0xC1#8, 0xC2#8, 0xC3#8, 0xC4#8, 0xC5#8, 0xC6#8, 0xC7#8, 0xC8#8, 0xC9#8, 0xCA#8]) ∧
  (∀ (c : Config) (code : Byte) (ops : Bytes) (i : Instr), decode c (code :: ops) = .ok i →
    (i.isInput = false ↔ 0xC0#8 ≤ code)) ∧
  (∀ (s : State) (r : Request) (rest : List Request), s.cfg.valid = true → s.inited = true →
    s.pending = r :: rest →
      (∀ i, decode s.cfg r.word = .ok i → i.isInput = false → step s = .refused .uIllegalCode) ∧
      (decode s.cfg r.word = .error .illegalCode → step s = .refused .uIllegalCode) ∧
      (∀ code, decode s.cfg r.word = .error (.badOperand code) →
        step s = .refused (if 0xC0#8 ≤ code then .uIllegalCode
          else if onlyRole code = none ∨ onlyRole code = some s.cfg.role then .uBadOperand else .uRole))) ∧
  (∀ (s : State) (r : Request) (rest : List Request), s.cfg.valid = true → s.inited = false →
    s.pending = r :: rest →
      (∀ i, decode s.cfg r.word = .ok i → i.isInput = false → step s = .refused .uPreinit) ∧
      (decode s.cfg r.word = .error .illegalCode → step s = .refused .uPreinit) ∧
      (∀ code, decode s.cfg r.word = .error (.badOperand code) →
        step s = .refused
          (if code = 0x00#8 ∨ code = 0x01#8 ∨ code = 0x05#8 ∨ code = 0x40#8 then .uBadOperand else .uPreinit)))

/-- Before `INIT` every operation but `INIT`, `F_INIT`, `ISBCAST` and `COMPARE` is refused with `U_PREINIT`, before any
other condition is looked at (60_exceptions sections 1 and 3, R277, R286; for micro-operations and frame classes this
is the model's reading, log 24), and `INIT` happens once: a second one is refused (70_reset_and_hazards section 1). -/
def Obligations.InitComesFirstAndOnce : Prop :=
  (∀ (i : Instr) (s : State), s.inited = false →
    (∀ p a h l t, i ≠ .init p a h l t) → (∀ p a h l t, i ≠ .fInit p a h l t) →
    (∀ a, i ≠ .isbcast a) → (∀ a b, i ≠ .compare a b) → exec i s = .refused .uPreinit) ∧
  (∀ (s : State) (pan addr : Bytes) (hook lrcb tocb : Bool) (i : Instr),
    i = .init pan addr hook lrcb tocb ∨ i = .fInit pan addr hook lrcb tocb →
    s.inited = true → pan.length = s.cfg.panW → addr.length = s.cfg.addrW → exec i s = .refused .uReinit)

/-- The operations of one role are refused with `U_ROLE` on the other (60_exceptions sections 1 and 5, R277, R292). -/
def Obligations.OtherRoleIsRefused : Prop :=
  ∀ s : State, s.inited = true →
    (s.cfg.role = .gw →
      exec .linkexists s = .refused .uRole ∧ (∀ p r, exec (.linkestablish p r) s = .refused .uRole) ∧
      exec .linkdestroy s = .refused .uRole ∧ exec .getlink s = .refused .uRole ∧
      (∀ p, exec (.connect p) s = .refused .uRole) ∧ exec .disconnect s = .refused .uRole ∧
      (∀ p, exec (.simpletransfer p) s = .refused .uRole) ∧ (∀ p, exec (.transfer p) s = .refused .uRole) ∧
      exec .validateEp s = .refused .uRole ∧ exec .timeoutHandler s = .refused .uRole) ∧
    (s.cfg.role = .ep →
      (∀ ptr n, exec (.setdrsp ptr n) s = .refused .uRole) ∧
      (∀ ptr n, exec (.loaddataresponse ptr n) s = .refused .uRole) ∧ exec .validateGw s = .refused .uRole)

/-- An operand outside its range is refused with `U_BAD_OPERAND`, after the role (30_encoding section 4, R107;
60_exceptions section 1, R277; the place of this check in the order is log 14): for the four operations admitted before
`INIT` in every state, for the others once initialised. -/
def Obligations.OperandRangesAreChecked : Prop :=
  ∀ s : State,
    (∀ i, (∃ p a h l t, (i = .init p a h l t ∨ i = .fInit p a h l t) ∧
        (p.length ≠ s.cfg.panW ∨ a.length ≠ s.cfg.addrW)) ∨
      i = .isbcast [] ∨ (∃ a b, i = .compare a b ∧ (a = [] ∨ a.length ≠ b.length)) →
      exec i s = .refused .uBadOperand) ∧
    (s.inited = true → ∀ i,
      (∃ ty drq p, (i = .send ty drq p ∨ i = .frameBuild ty drq p ∨ i = .uSend ty drq p) ∧ 255 < p.length) ∨
      (∃ ty rsv drq m, i = .fReserved ty rsv drq m ∧ (ty = 0#2 ∨ ty = s.cfg.linkreqCode)) →
      exec i s = .refused .uBadOperand) ∧
    (s.inited = true → s.cfg.role = .ep → ∀ i,
      (∃ p r, i = .linkestablish p r ∧ (p.length ≠ s.cfg.panW ∨ r.length ≠ s.cfg.addrW)) ∨
      (∃ p, (i = .connect p ∨ i = .simpletransfer p ∨ i = .transfer p) ∧ 255 < p.length) →
      exec i s = .refused .uBadOperand)

/-! ## Addressing Registry -/

/-- `INIT` and `F_INIT` on an End Point: the state after them is the table of 10_state section 5 (R43;
40_addressing_registry R120). `FB` holds no value (log 7); a register the table calls undefined (`RXTO`, the reception
latches, `AF.byte` where the filter is disabled) keeps its value (log 2). -/
def Obligations.InitEndPoint : Prop :=
  ∀ (s : State) (pan addr : Bytes) (hook lrcb tocb : Bool) (i : Instr) (r : Result),
    (i = .init pan addr hook lrcb tocb ∧ r = .unit) ∨ (i = .fInit pan addr hook lrcb tocb ∧ r = .bool true) →
    s.inited = false → s.cfg.role = .ep → pan.length = s.cfg.panW → addr.length = s.cfg.addrW →
    s.cfg.valid = true →
    ((∃ b ∈ pan, b ≠ s.cfg.bcast) →
      exec i s = .next { s with
        panid := pan, localAddr := addr, remote := List.replicate s.cfg.addrW s.cfg.bcast, hook := hook,
        tocb := tocb, fixed := true, afEn := true, afByte := pan.getLastD 0#8,
        out := s.out ++ [.afEnable (pan.getLastD 0#8)],
        busy := false, st := .idle, seq := s.cfg.seqInit, len := 0#8, fb := [], fbtag := .none,
        rxtoAct := if s.cfg.hasRxto then false else s.rxtoAct,
        radio := .unknown, lastV := false, inited := true, result := some r }) ∧
    ((∀ b ∈ pan, b = s.cfg.bcast) →
      exec i s = .next { s with
        panid := pan, localAddr := addr, remote := List.replicate s.cfg.addrW s.cfg.bcast, hook := hook,
        tocb := tocb, fixed := false, afEn := false, out := s.out ++ [.afDisable],
        busy := false, st := .idle, seq := s.cfg.seqInit, len := 0#8, fb := [], fbtag := .none,
        rxtoAct := if s.cfg.hasRxto then false else s.rxtoAct,
        radio := .unknown, lastV := false, inited := true, result := some r })

/-- `INIT` and `F_INIT` on a Gateway with a PAN id that is not broadcast (10_state section 5, R43;
40_addressing_registry R120); with the broadcast one they are refused. `DRSP.ptr` and the latches, which the table calls
undefined, keep their values (log 2); `FB` holds no value (log 7). -/
def Obligations.InitGateway : Prop :=
  ∀ (s : State) (pan addr : Bytes) (hook lrcb tocb : Bool) (i : Instr) (r : Result),
    (i = .init pan addr hook lrcb tocb ∧ r = .unit) ∨ (i = .fInit pan addr hook lrcb tocb ∧ r = .bool true) →
    s.inited = false → s.cfg.role = .gw → pan.length = s.cfg.panW → addr.length = s.cfg.addrW →
    s.cfg.valid = true →
    ((∃ b ∈ pan, b ≠ s.cfg.bcast) →
      exec i s = .next { s with
        panid := pan, localAddr := addr, lrcb := lrcb, drspLen := 0#8, afEn := true, afByte := pan.getLastD 0#8,
        out := s.out ++ [.afEnable (pan.getLastD 0#8)],
        busy := false, st := .idle, seq := s.cfg.seqInit, len := 0#8, fb := [], fbtag := .none,
        radio := .unknown, lastV := false, inited := true, result := some r }) ∧
    ((∀ b ∈ pan, b = s.cfg.bcast) → exec i s = .refused .uGwBcastPan)

/-- `ISBCAST` (40_addressing_registry R121): true iff every byte equals the broadcast sentinel. It reads no state and
is allowed before `INIT`. Its code is `0x01`. -/
def Obligations.IsBroadcastTestsEveryByte : Prop :=
  ∀ (s : State) (a : Bytes), 1 ≤ a.length →
    (∃ v : Bool, (v = true ↔ ∀ i, i < a.length → a[i]? = some s.cfg.bcast) ∧
      exec (.isbcast a) s = .next { s with result := some (.bool v) }) ∧
    (a.length ≤ 255 → decode s.cfg (0x01#8 :: BitVec.ofNat 8 a.length :: a) = .ok (.isbcast a))

/-- `LINKEXISTS` and `GETLINK` (40_addressing_registry R122, 45_facade_and_status R249): true iff `REMOTE` is not
broadcast; refused on a Gateway and before `INIT`. Their codes are `0x02` and `0x21`. -/
def Obligations.LinkQueriesReadRemote : Prop :=
  ∀ (s : State) (i : Instr), i = .linkexists ∨ i = .getlink →
    decode s.cfg [0x02#8] = .ok .linkexists ∧ decode s.cfg [0x21#8] = .ok .getlink ∧
    (s.inited = true → s.cfg.role = .ep → ∃ v : Bool, (v = true ↔ ¬ ∀ b ∈ s.remote, b = s.cfg.bcast) ∧
      exec i s = .next { s with result := some (.bool v) }) ∧
    (s.inited = true → s.cfg.role = .gw → exec i s = .refused .uRole) ∧
    (s.inited = false → exec i s = .refused .uPreinit)

/-- `LINKESTABLISH` on an End Point (40_addressing_registry section of R123): every register, the filter command, the
persisted record. The non-volatile store is the model's own shadow (log 12). -/
def Obligations.LinkEstablishAdoptsPeer : Prop :=
  ∀ (s : State) (p r : Bytes), s.inited = true → s.cfg.role = .ep → s.cfg.valid = true →
    p.length = s.cfg.panW → r.length = s.cfg.addrW →
    ∃ m, Overlaid s.nv 0
        (if s.hook then
          [if s.fixed then 1#8 else 0#8] ++ (if s.fixed then s.panid else p) ++ s.localAddr ++ r else []) m ∧
      exec (.linkestablish p r) s = .next { s with
        panid := if s.fixed then s.panid else p, remote := r,
        afEn := if s.fixed then s.afEn else true, afByte := if s.fixed then s.afByte else p.getLastD 0#8,
        out := s.out ++ (if s.fixed then [] else [.afEnable (p.getLastD 0#8)]) ++
          (if s.hook then [.backupWrite
            ([if s.fixed then 1#8 else 0#8] ++ (if s.fixed then s.panid else p) ++ s.localAddr ++ r)] else []),
        nv := m, result := some .unit }

/-- `LINKDESTROY` and `DISCONNECT` on an End Point (40_addressing_registry section of R124, 45_facade_and_status R243):
nothing is transmitted and nothing in flight is touched. -/
def Obligations.LinkDestroyResetsLink : Prop :=
  ∀ (s : State) (i : Instr), i = .linkdestroy ∨ i = .disconnect → s.inited = true → s.cfg.role = .ep →
    ∃ m pan rem, pan = (if s.fixed then s.panid else List.replicate s.cfg.panW s.cfg.bcast) ∧
      rem = List.replicate s.cfg.addrW s.cfg.bcast ∧
      Overlaid s.nv 0
        (if s.hook then [if s.fixed then 1#8 else 0#8] ++ pan ++ s.localAddr ++ rem else []) m ∧
      exec i s = .next { s with
        panid := pan, remote := rem, afEn := if s.fixed then s.afEn else false,
        out := s.out ++ (if s.fixed then [] else [.afDisable]) ++
          (if s.hook then [.backupWrite ([if s.fixed then 1#8 else 0#8] ++ pan ++ s.localAddr ++ rem)] else []),
        nv := m, result := some .unit }

/-- The link life cycle (40_addressing_registry section of R129): no link after `INIT`; one after `LINKESTABLISH` with
an address that is not broadcast; none after `LINKDESTROY`, and a second `LINKDESTROY` changes no register. -/
def Obligations.LinkLifeCycle : Prop :=
  ∀ s t : State, s.cfg.role = .ep → s.cfg.valid = true →
    (∀ pan addr h l tb, exec (.init pan addr h l tb) s = .next t →
      ∃ u, exec .linkexists t = .next u ∧ u.result = some (.bool false)) ∧
    (∀ p r, exec (.linkestablish p r) s = .next t → (∃ b ∈ r, b ≠ s.cfg.bcast) →
      ∃ u, exec .linkexists t = .next u ∧ u.result = some (.bool true)) ∧
    (exec .linkdestroy s = .next t →
      (∃ u, exec .linkexists t = .next u ∧ u.result = some (.bool false)) ∧
      t.remote = List.replicate s.cfg.addrW s.cfg.bcast ∧
      ∃ u, exec .linkdestroy t = .next u ∧ { u with out := [] } = { t with out := [] })

/-- `COMPARE` (40_addressing_registry section of R130): lexicographic on unsigned bytes, zero iff equal; nothing else
changes. The sign is the spec's decision, not the source's. -/
def Obligations.CompareIsLexicographic : Prop :=
  ∀ (s : State) (a b : Bytes), 1 ≤ a.length → a.length = b.length →
    ∃ o : Ordering, exec (.compare a b) s = .next { s with result := some (.order o) } ∧
      (o = .eq ↔ a = b) ∧
      (o = .lt ↔ ∃ i x y, a.take i = b.take i ∧ a[i]? = some x ∧ b[i]? = some y ∧ x.toNat < y.toNat) ∧
      (o = .gt ↔ ∃ i x y, a.take i = b.take i ∧ a[i]? = some x ∧ b[i]? = some y ∧ y.toNat < x.toNat)

/-! ## Listening and sending -/

/-- `LISTEN` on an idle instance of either role (43_scheduler_fsm section 1, R180, R181): the receive is armed, and the
timeout with it on an End Point that has one. `FB` holds no value from here on (log 7). -/
def Obligations.ListenArmsReceive : Prop :=
  ∀ s : State, s.inited = true → s.busy = false →
    exec .listen s = .next { s with
      busy := true, st := .listening, fbtag := .rxArmed, radio := .active, fb := [],
      rxto := if s.cfg.role = .ep ∧ s.cfg.rxtoEn = true then BitVec.ofNat 16 s.cfg.rxtoTicks else s.rxto,
      rxtoAct := if s.cfg.role = .ep ∧ s.cfg.rxtoEn = true then true else s.rxtoAct,
      out := s.out ++ [.phyArmRx], result := some (.bool true) }

/-- `Contention` (60_exceptions R271): `LISTEN` or `Send` with `BUSY = 1` returns false, changes nothing and acts on
nothing; so do the commands that call `Send`. The cause label is the model's trace (log 16). -/
def Obligations.ContentionChangesNothing : Prop :=
  ∀ (s : State), s.inited = true → s.busy = true →
    exec .listen s = .next { s with result := some (.bool false), cause := some .contention } ∧
    ∀ (ty : FrameType) (drq : Bool) (p : Bytes), p.length ≤ 255 →
      exec (.send ty drq p) s = .next { s with result := some (.bool false), cause := some .contention } ∧
      exec (.uSend ty drq p) s = .next { s with result := some (.bool false), cause := some .contention } ∧
      (s.cfg.role = .ep →
        exec (.simpletransfer p) s = .next { s with result := some (.bool false), cause := some .contention } ∧
        (LinkUp s →
          exec (.transfer p) s = .next { s with result := some (.bool false), cause := some .contention }) ∧
        (¬ LinkUp s →
          exec (.connect p) s = .next { s with result := some (.bool false), cause := some .contention }))

/-- `Capacity` (60_exceptions R272): `Send` with `BUSY = 0` and a payload that does not fit returns false, changes
nothing and acts on nothing; inside the Gateway's turnaround the staged reply is cleared and the idle policy runs. -/
def Obligations.CapacityChangesNothing : Prop :=
  (∀ (s : State) (ty : FrameType) (drq : Bool) (p : Bytes), s.inited = true → s.busy = false →
    p.length ≤ 255 → s.cfg.maxFrame < p.length + s.cfg.hdrLen →
      exec (.send ty drq p) s = .next { s with result := some (.bool false), cause := some .capacity } ∧
      exec (.uSend ty drq p) s = .next { s with result := some (.bool false), cause := some .capacity } ∧
      (s.cfg.role = .ep →
        exec (.simpletransfer p) s = .next { s with result := some (.bool false), cause := some .capacity } ∧
        (LinkUp s →
          exec (.transfer p) s = .next { s with result := some (.bool false), cause := some .capacity }) ∧
        (¬ LinkUp s →
          exec (.connect p) s = .next { s with result := some (.bool false), cause := some .capacity }))) ∧
  (∀ (s : State) (h : Header) (p : Bytes), s.inited = true → s.cfg.role = .gw → s.busy = false →
    HoldsFrame s h p → h.ctl.getLsbD 1 = true → s.drspLen ≠ 0#8 →
    s.cfg.maxFrame < s.drspLen.toNat + s.cfg.hdrLen →
      exec .dispatchData s = .next (answering .unit (idled { s with
        drspLen := 0#8, freeCtr := s.freeCtr + 1, cause := some .capacity,
        out := s.out ++ [.cbFrameCompleteGw true p s.len, .phyActive] })))

/-- `SEND` and the micro-operation `Send` on an idle End Point (41_frame_build R149; 43_scheduler_fsm section 1, R183,
R184): the bytes handed to the Physical Bridge are `PANID ++ REMOTE ++ LOCAL ++ [ctl] ++ [seq] ++ P`, they stand in `FB`
from byte 0 on, every other byte of `FB` is unchanged, and the answer decides the rest. -/
def Obligations.EndPointSendTransmitsBuiltFrame : Prop :=
  ∀ (s : State) (ty : FrameType) (drq : Bool) (p : Bytes) (i : Instr), i = .send ty drq p ∨ i = .uSend ty drq p →
    s.inited = true → s.cfg.role = .ep → s.cfg.valid = true → FieldsSized s → s.busy = false →
    p.length + s.cfg.hdrLen ≤ s.cfg.maxFrame →
    ∃ m, Overlaid s.fb 0 (builtFrame s s.remote ty drq p) m ∧
      exec i s = .next (answering (.bool s.phyAccept)
        (answered (built s p m) (builtFrame s s.remote ty drq p)))

/-- The same on an idle Gateway: the destination is the source address of the frame in `FB`, as it stood before the
build; with no frame there, the send and the micro-operation `FrameBuild` are refused (41_frame_build sections of R142
and R153). -/
def Obligations.GatewaySendAnswersLastSource : Prop :=
  ∀ (s : State) (ty : FrameType) (drq : Bool) (p : Bytes) (i : Instr), i = .send ty drq p ∨ i = .uSend ty drq p →
    s.inited = true → s.cfg.role = .gw → s.cfg.valid = true → FieldsSized s → s.busy = false →
    p.length + s.cfg.hdrLen ≤ s.cfg.maxFrame →
    (∀ h q, HoldsFrame s h q → ∃ m, Overlaid s.fb 0 (builtFrame s h.src ty drq p) m ∧
      exec i s = .next (answering (.bool s.phyAccept)
        (answered (built s p m) (builtFrame s h.src ty drq p)))) ∧
    (s.fbtag = .none → exec i s = .refused .uFbUndefined ∧ exec (.frameBuild ty drq p) s = .refused .uFbUndefined)

/-- `SIMPLETRANSFER` (45_facade_and_status R244): a Data frame with data request 0, no link required; `Contention`,
`Capacity`, `PhyReject` answer false; refused on a Gateway; after the completion event of an accepted one the End Point
has its zero-length callback and is idle. -/
def Obligations.SimpleTransferSendsOneWay : Prop :=
  ∀ (s : State) (p : Bytes), s.inited = true → p.length ≤ 255 →
    (s.cfg.role = .gw → exec (.simpletransfer p) s = .refused .uRole) ∧
    (s.cfg.role = .ep → s.cfg.valid = true → FieldsSized s →
      (s.busy = true → ∃ t, exec (.simpletransfer p) s = .next t ∧ t.result = some (.bool false)) ∧
      (s.cfg.maxFrame < p.length + s.cfg.hdrLen →
        ∃ t, exec (.simpletransfer p) s = .next t ∧ t.result = some (.bool false)) ∧
      (s.busy = false → p.length + s.cfg.hdrLen ≤ s.cfg.maxFrame →
        ∃ m t, Overlaid s.fb 0 (builtFrame s s.remote .data false p) m ∧
          exec (.simpletransfer p) s = .next t ∧
          t = answering (.bool s.phyAccept) (answered (built s p m) (builtFrame s s.remote .data false p)) ∧
          (s.phyAccept = true → ∃ u, exec .edgeTx t = .next u ∧ u.st = .idle ∧ u.busy = false ∧
            u.out = t.out ++ [.cbFrameCompleteEp [] 0#8, .phyLowPower])))

/-- `CONNECT` and `TRANSFER` on an End Point (45_facade_and_status sections of R242, R245). `CONNECT`: true where a link
exists and nothing else; else a Link-Request with data request 1, and the result is false whatever the Physical Bridge
answers. `TRANSFER`: false and nothing else without a link; with one, a Data frame with data request 1, after whose
completion event the End Point listens for the reply. -/
def Obligations.ConnectAndTransfer : Prop :=
  ∀ (s : State) (p : Bytes), s.inited = true → s.cfg.role = .ep → s.cfg.valid = true → FieldsSized s →
    p.length ≤ 255 →
    (LinkUp s → exec (.connect p) s = .next { s with result := some (.bool true) }) ∧
    (¬ LinkUp s → s.busy = false → p.length + s.cfg.hdrLen ≤ s.cfg.maxFrame →
      ∃ m, Overlaid s.fb 0 (builtFrame s s.remote .linkReq true p) m ∧
        exec (.connect p) s = .next (answering (.bool false)
          (answered (built s p m) (builtFrame s s.remote .linkReq true p)))) ∧
    (¬ LinkUp s → exec (.transfer p) s = .next { s with result := some (.bool false) }) ∧
    (LinkUp s → s.busy = false → p.length + s.cfg.hdrLen ≤ s.cfg.maxFrame →
      ∃ m t, Overlaid s.fb 0 (builtFrame s s.remote .data true p) m ∧
        exec (.transfer p) s = .next t ∧
        t = answering (.bool s.phyAccept) (answered (built s p m) (builtFrame s s.remote .data true p)) ∧
        (s.phyAccept = true → ∃ u, exec .edgeTx t = .next u ∧ u.st = .listening ∧ u.out = t.out ++ [.phyArmRx]))

/-- `SETDRSP` and `LOADDATARESPONSE` on a Gateway, whatever `BUSY` is (43_scheduler_fsm section 1, R185;
45_facade_and_status R246): the reply is staged by reference, nothing else changes. -/
def Obligations.StagingKeepsAReference : Prop :=
  ∀ (s : State) (ptr : Nat) (n : Byte) (i : Instr), i = .setdrsp ptr n ∨ i = .loaddataresponse ptr n →
    s.inited = true → s.cfg.role = .gw →
    exec i s = .next { s with drspPtr := ptr, drspLen := n, result := some .unit }

/-- `BUSY` and `F_BUSY` (43_scheduler_fsm R186): the flag, no side effect; between steps true exactly when `ST` is not
`Idle`. The code of `BUSY` is `0x13`. -/
def Obligations.BusyQueryReadsFlag : Prop :=
  ∀ (s : State) (i : Instr), i = .busy ∨ i = .fBusy → s.inited = true →
    decode s.cfg [0x13#8] = .ok .busy ∧
    exec i s = .next { s with result := some (.bool s.busy) } ∧
    (Inv s → (s.busy = true ↔ s.st ≠ .idle))

/-! ## Status queries -/

/-- The status queries (45_facade_and_status sections of R248, R250 to R254): the PAN id; the source and sequence fields
of the frame in `FB`, refused while `FB` holds no defined frame; the latches of the last reception, the quality
zero-extended to a byte, refused while nothing has been received. No register changes. -/
def Obligations.StatusQueriesReadAndKeepState : Prop :=
  ∀ s : State, s.inited = true →
    exec .getpan s = .next { s with result := some (.bytes s.panid) } ∧
    (∀ h p, HoldsFrame s h p →
      exec .getlastsrc s = .next { s with result := some (.bytes h.src) } ∧
      exec .getlastseq s = .next { s with result := some (.byte h.seq) }) ∧
    (s.fbtag = .none ∨ s.fbtag = .rxArmed →
      exec .getlastsrc s = .refused .uFbUndefined ∧ exec .getlastseq s = .refused .uFbUndefined) ∧
    (s.lastV = true →
      exec .getrssi s = .next { s with result := some (.byte s.lastRssi) } ∧
      exec .getlqi s = .next { s with result := some (.byte (BitVec.ofNat 8 s.lastLqi.toNat)) } ∧
      exec .getcrc s = .next { s with result := some (.bool s.lastCrc) }) ∧
    (s.lastV = false →
      exec .getrssi s = .refused .uLatchUndefined ∧ exec .getlqi s = .refused .uLatchUndefined ∧
      exec .getcrc s = .refused .uLatchUndefined)

/-! ## Frame builder -/

/-- `FrameBuild` (41_frame_build R144, R146, section of R147; 30_encoding R95, R99): every field of the frame at its
offset, the payload after it, every other byte of `FB` unchanged, `SEQ` advanced by one modulo 256; no action, no
question. On a Gateway the destination is the old source field, read before any write. -/
def Obligations.FrameBuildStampsEveryField : Prop :=
  ∀ (s : State) (ty : FrameType) (drq : Bool) (p : Bytes), s.inited = true → s.cfg.valid = true → FieldsSized s →
    p.length + s.cfg.hdrLen ≤ s.cfg.maxFrame →
    ∀ d, (s.cfg.role = .ep ∧ d = s.remote) ∨ (s.cfg.role = .gw ∧ ∃ h q, HoldsFrame s h q ∧ d = h.src) →
      ∃ m, exec (.frameBuild ty drq p) s = .next { s with
          fb := m, len := BitVec.ofNat 8 p.length, seq := s.seq + 1#8, fbtag := .tx, result := some .unit } ∧
        (∀ k, k < s.cfg.panW → m.read k = s.panid[k]?) ∧
        (∀ k, k < s.cfg.addrW → m.read (s.cfg.panW + k) = d[k]?) ∧
        (∀ k, k < s.cfg.addrW → m.read (s.cfg.panW + s.cfg.addrW + k) = s.localAddr[k]?) ∧
        m.read (s.cfg.panW + 2 * s.cfg.addrW) = some (stampedCtl s.cfg ty drq) ∧
        m.read (s.cfg.panW + 2 * s.cfg.addrW + 1) = some s.seq ∧
        (∀ k, k < p.length → m.read (s.cfg.hdrLen + k) = p[k]?) ∧
        (∀ a, s.cfg.hdrLen + p.length ≤ a → m.read a = s.fb.read a)

/-- Build, then parse (41_frame_build section of R151): the frame in `FB` after a build holds exactly the fields and
the payload it was built from, and its control byte gives back the type, the data request and the role. -/
def Obligations.BuildThenParseRoundTrip : Prop :=
  ∀ (s t : State) (ty : FrameType) (drq : Bool) (p : Bytes), s.cfg.valid = true → FieldsSized s →
    p.length + s.cfg.hdrLen ≤ s.cfg.maxFrame → exec (.frameBuild ty drq p) s = .next t →
    ∃ h, HoldsFrame t h p ∧ h.pan = s.panid ∧ h.src = s.localAddr ∧ h.seq = s.seq ∧
      (s.cfg.role = .ep → h.dst = s.remote) ∧
      ctlType h.ctl = typeCode s.cfg ty ∧ ctlDrq h.ctl = drq ∧ ctlRsv h.ctl = 0#4 ∧
      (ctlMode h.ctl = true ↔ s.cfg.role = .gw)

/-! ## Checks on a received frame -/

/-- `RxCheck` (42_frame_validate sections of R161 and R162): below `HDR_LEN` or above `MAX_FRAME` the length rejects,
then a clear CRC bit does; nothing is written. -/
def Obligations.RxCheckLengthThenCrc : Prop :=
  ∀ (s : State) (n : Byte) (ok : Bool), s.inited = true →
    exec (.rxCheck n ok) s = .next { s with result := some (.verdict
      (if n.toNat < s.cfg.hdrLen ∨ s.cfg.maxFrame < n.toNat then some .rLength
       else if ok = false then some .rCrc else none)) }

/-- `Classify` (42_frame_validate R163): bits 7:6 of the control byte alone decide. Its code is `0xCA`. -/
def Obligations.ClassifyReadsTypeBits : Prop :=
  ∀ (s : State) (b : Byte), s.inited = true → s.cfg.valid = true → s.fbtag = .tx ∨ s.fbtag = .rx →
    s.fb.read (s.cfg.panW + 2 * s.cfg.addrW) = some b →
    decode s.cfg [0xCA#8] = .ok .classify ∧
    exec .classify s = .next { s with result := some (.frameClass
      (if b.toNat / 64 = 0 then .data else if b.toNat / 64 = s.cfg.linkreqCode.toNat then .linkReq else .reserved)) }

/-- `ValidateEP` (42_frame_validate section of R166): mode, then destination, then PAN id with the one exception for a
Link-Request to an unlinked End Point without a fixed PAN id; nothing is written. -/
def Obligations.EndPointFilter : Prop :=
  ∀ (s : State) (h : Header) (p : Bytes), s.inited = true → s.cfg.role = .ep → HoldsFrame s h p →
    ∃ v, exec .validateEp s = .next { s with result := some (.verdict v) } ∧
      (h.ctl.getLsbD 0 = false → v = some .rMode) ∧
      (h.ctl.getLsbD 0 = true → h.dst ≠ s.localAddr → v = some .rDest) ∧
      (h.ctl.getLsbD 0 = true → h.dst = s.localAddr → h.pan = s.panid → v = none) ∧
      (h.ctl.getLsbD 0 = true → h.dst = s.localAddr → h.pan ≠ s.panid →
        (h.ctl.extractLsb' 6 2 = s.cfg.linkreqCode ∧ s.cfg.linkreqCode ≠ 0#2 ∧ ¬ LinkUp s ∧ s.fixed = false →
          v = none) ∧
        (h.ctl.extractLsb' 6 2 ≠ s.cfg.linkreqCode ∨ LinkUp s ∨ s.fixed = true → v = some .rPan))

/-- `ValidateGW` (42_frame_validate R167): mode, then destination (own address or broadcast), then PAN id (own or
broadcast, for Data and Link-Request alike); nothing is written. Its code is `0xC2`. -/
def Obligations.GatewayFilter : Prop :=
  ∀ (s : State) (h : Header) (p : Bytes), s.inited = true → s.cfg.role = .gw → HoldsFrame s h p →
    decode s.cfg [0xC2#8] = .ok .validateGw ∧
    ∃ v, exec .validateGw s = .next { s with result := some (.verdict v) } ∧
      (h.ctl.getLsbD 0 = true → v = some .rMode) ∧
      (h.ctl.getLsbD 0 = false → h.dst ≠ s.localAddr → (∃ b ∈ h.dst, b ≠ s.cfg.bcast) → v = some .rDest) ∧
      (h.ctl.getLsbD 0 = false → h.dst = s.localAddr ∨ (∀ b ∈ h.dst, b = s.cfg.bcast) →
        (h.pan ≠ s.panid → (∃ b ∈ h.pan, b ≠ s.cfg.bcast) → v = some .rPan) ∧
        (h.pan = s.panid ∨ (∀ b ∈ h.pan, b = s.cfg.bcast) → v = none))

/-- What the filters read (42_frame_validate R164): the PAN id, the destination, the mode bit and the type of the frame,
and the registry; two frames and two states that agree on these get one verdict, whatever their source address, sequence
number, data-request bit, payload, `SEQ`, `BUSY` and `DRSP`; and nothing is written. -/
def Obligations.FiltersReadOnlyTheirInputs : Prop :=
  ∀ (s s' : State) (h h' : Header) (p p' : Bytes), s.inited = true → s'.inited = true →
    HoldsFrame s h p → HoldsFrame s' h' p' → s'.cfg = s.cfg →
    h'.pan = h.pan → h'.dst = h.dst → h'.ctl &&& 0xC1#8 = h.ctl &&& 0xC1#8 →
    s'.panid = s.panid → s'.localAddr = s.localAddr → s'.remote = s.remote → s'.fixed = s.fixed →
    ∀ i, (s.cfg.role = .ep ∧ i = .validateEp) ∨ (s.cfg.role = .gw ∧ i = .validateGw) →
      ∃ v, exec i s = .next { s with result := some (.verdict v) } ∧
        exec i s' = .next { s' with result := some (.verdict v) }

/-! ## Dispatch, idle policy, timeout -/

/-- `DispatchData` (43_scheduler_fsm R194): the data-request bit of the stored control byte is cleared and no other
byte of the stored frame changes; the role's callback gets the payload, on a Gateway with the bit as read before; then
the idle policy, or on a Gateway that was asked and has a reply staged, the turnaround, whose reply goes to the source
address of the frame. The reply's bytes are those the host has stored; one it has not told is any value (log 10). -/
def Obligations.DispatchDataConsumesRequestBit : Prop :=
  ∀ (s : State) (h : Header) (p : Bytes), s.inited = true → HoldsFrame s h p →
    (s.cfg.role = .ep → ∃ m, Overlaid s.fb (s.cfg.panW + 2 * s.cfg.addrW) [h.ctl &&& 0xFD#8] m ∧
      exec .dispatchData s = .next { s with
        fb := m, radio := .lowPower, out := s.out ++ [.cbFrameCompleteEp p s.len, .phyLowPower],
        result := some .unit }) ∧
    (s.cfg.role = .gw → h.ctl.getLsbD 1 = false ∨ s.drspLen = 0#8 →
      exec .dispatchData s = .next (answering .unit (idled { s with
        out := s.out ++ [.cbFrameCompleteGw (h.ctl.getLsbD 1) p s.len] }))) ∧
    (s.cfg.role = .gw → s.cfg.valid = true → FieldsSized s → s.busy = false →
      h.ctl.getLsbD 1 = true → s.drspLen ≠ 0#8 → s.drspLen.toNat + s.cfg.hdrLen ≤ s.cfg.maxFrame →
      ∃ q m1 m t, StagedReply s q ∧ Overlaid s.fb (s.cfg.panW + 2 * s.cfg.addrW) [h.ctl &&& 0xFD#8] m1 ∧
        Overlaid m1 0 (builtFrame s h.src .data false q) m ∧
        t = answered (built { s with
            radio := .active, drspLen := 0#8, freeCtr := s.freeCtr + 1,
            out := s.out ++ [.cbFrameCompleteGw true p s.len, .phyActive] } q m)
          (builtFrame s h.src .data false q) ∧
        exec .dispatchData s = .next (answering .unit (if s.phyAccept then t else idled t)))

/-- `DispatchLinkRequest` (43_scheduler_fsm section 3, R196, R197). On an End Point the link is established with the
frame's PAN id and source address, without a callback, and the idle policy runs. On an idle Gateway the callback is
asked where it is connected, else the request is accepted; an accepted one is acknowledged with an empty Link-Request
frame to its source, a denied one is followed by the idle policy. -/
def Obligations.LinkRequestsAreDispatched : Prop :=
  ∀ (s u : State) (h : Header) (p : Bytes), s.inited = true → HoldsFrame s h p →
    (s.cfg.role = .ep → exec .dispatchLinkRequest s = .next (answering .unit (idled (linked h.pan h.src s)))) ∧
    (s.cfg.role = .gw → s.cfg.valid = true → FieldsSized s → s.busy = false →
      u = { s with out := s.out ++ (if s.lrcb then [.cbLinkRequest h.pan h.src p s.len] else []) } →
      (s.lrcb = true → s.lrAccept = false →
        exec .dispatchLinkRequest s = .next (answering .unit (idled u))) ∧
      (s.lrcb = false ∨ s.lrAccept = true →
        ∃ m t, Overlaid s.fb 0 (builtFrame s h.src .linkReq false []) m ∧
          t = answered (built { u with radio := .active, out := u.out ++ [.phyActive] } [] m)
            (builtFrame s h.src .linkReq false []) ∧
          exec .dispatchLinkRequest s = .next (answering .unit (if s.phyAccept then t else idled t))))

/-- The micro-operations `ArmReceive` and `FrameIdle` on both roles and `TimeoutHandler` on an End Point
(43_scheduler_fsm sections 1 and 4): an End Point idles in low power, a Gateway re-arms. The spec gives these effects
under the preconditions of the micro-operations and `TimeoutHandler` only with the timeout feature; that they hold in
every state is the model's choice (log 23). `FB` holds no value after an arming (log 7); the cause is the trace label
(log 16). -/
def Obligations.ArmIdleAndTimeoutOperations : Prop :=
  ∀ s : State, s.inited = true →
    exec .armReceive s = .next (answering .unit (armed s)) ∧
    (s.cfg.role = .ep → exec .frameIdle s = .next { s with
      radio := .lowPower, out := s.out ++ [.phyLowPower], result := some .unit }) ∧
    (s.cfg.role = .gw → exec .frameIdle s = .next (answering .unit (armed { s with
      out := s.out ++ [.phyLowPower] }))) ∧
    (s.cfg.role = .ep → exec .timeoutHandler s = .next { s with
      busy := false, st := .idle, fbtag := .none, radio := .lowPower, cause := some .timeout,
      out := s.out ++ (if s.tocb then [.cbTimeout] else []) ++ [.phyLowPower], result := some .unit })

/-! ## Events -/

/-- `EDGE_TX` with a transmission in flight (43_scheduler_fsm section 2, R188): a sent data request re-arms the receive;
else the zero-length callback of the role, then the idle policy. The status byte is any value (log 13). -/
def Obligations.TransmitDone : Prop :=
  ∀ (s : State) (c : Byte), s.inited = true → s.cfg.valid = true → s.st = .transmitting → s.fbtag = .tx →
    s.fb.read (s.cfg.panW + 2 * s.cfg.addrW) = some c → ∃ v : Byte,
    (c.getLsbD 1 = true → exec .edgeTx s = .next (returned v (armed s))) ∧
    (c.getLsbD 1 = false → s.cfg.role = .ep → exec .edgeTx s = .next (returned v { s with
      busy := false, st := .idle, radio := .lowPower,
      out := s.out ++ [.cbFrameCompleteEp [] 0#8, .phyLowPower] })) ∧
    (c.getLsbD 1 = false → s.cfg.role = .gw → exec .edgeTx s = .next (returned v (idled { s with
      busy := false, st := .idle, out := s.out ++ [.cbFrameCompleteGw false [] 0#8] })))

/-- `EDGE_RX` of a frame an End Point accepts (43_scheduler_fsm sections 2 and 3, R189, R190, R194, R196; the conditions
are 42_frame_validate R166). Data: latches, the buffer with the data-request bit cleared, the callback with the payload,
low power. Link-Request, on the own PAN id or with no link and no fixed PAN id: the link is established. The place of
CRC-OK and of the LQI in the last byte, and what the length prefix counts, are presumed (log 19); the status byte is any
value (log 13). -/
def Obligations.EndPointReceivesFrame : Prop :=
  ∀ (s : State) (h : Header) (p : Bytes) (rssi lq : Byte), s.inited = true → s.cfg.role = .ep →
    s.cfg.valid = true → s.st = .listening → h.Fits s.cfg → s.cfg.hdrLen + p.length ≤ s.cfg.maxFrame →
    128 ≤ lq.toNat → h.dst = s.localAddr →
    (h.ctl &&& 0xC1#8 = 0x01#8 → h.pan = s.panid →
      ∃ v m, Overlaid s.fb 0 (headerBytes { h with ctl := h.ctl &&& 0xFD#8 } ++ p) m ∧
        exec (.edgeRx (envelopeOf h p rssi lq)) s = .next (returned v (idled
          { received s (s.cfg.hdrLen + p.length) rssi lq m with
            out := s.out ++ [.cbFrameCompleteEp p (BitVec.ofNat 8 p.length)] }))) ∧
    (h.ctl &&& 0xC1#8 = (s.cfg.linkreqCode.setWidth 8 <<< 6) ||| 0x01#8 →
      h.pan = s.panid ∨ (¬ LinkUp s ∧ s.fixed = false) →
      ∃ v m, Overlaid s.fb 0 (headerBytes h ++ p) m ∧
        exec (.edgeRx (envelopeOf h p rssi lq)) s = .next (returned v (idled (linked h.pan h.src
          (received s (s.cfg.hdrLen + p.length) rssi lq m)))))

/-- `EDGE_RX` of a Data frame a Gateway accepts (43_scheduler_fsm sections 2 and 3, R189, R194, R195): without a
request, or with nothing staged, the callback and the re-listen; with both, the reply in the same step, or the re-listen
where the Physical Bridge does not take it or the reply is too long. The reply's bytes are those the host has stored;
one it has not told is any value (log 10). The place of CRC-OK and of the LQI in the last byte, and what the length prefix
counts, are presumed (log 19); the status byte is any value (log 13), the cause the trace label (log 16). -/
def Obligations.GatewayReceivesData : Prop :=
  ∀ (s : State) (h : Header) (p : Bytes) (rssi lq : Byte), s.inited = true → s.cfg.role = .gw →
    s.cfg.valid = true → s.st = .listening → h.Fits s.cfg → s.cfg.hdrLen + p.length ≤ s.cfg.maxFrame →
    128 ≤ lq.toNat → h.ctl &&& 0xC1#8 = 0x00#8 →
    h.dst = s.localAddr ∨ (∀ b ∈ h.dst, b = s.cfg.bcast) → h.pan = s.panid ∨ (∀ b ∈ h.pan, b = s.cfg.bcast) →
    (h.ctl.getLsbD 1 = false ∨ s.drspLen = 0#8 → ∃ v,
      exec (.edgeRx (envelopeOf h p rssi lq)) s = .next (returned v (idled
        { received s (s.cfg.hdrLen + p.length) rssi lq [] with
          out := s.out ++ [.cbFrameCompleteGw (h.ctl.getLsbD 1) p (BitVec.ofNat 8 p.length)] }))) ∧
    (FieldsSized s → h.ctl.getLsbD 1 = true → s.drspLen ≠ 0#8 →
      s.drspLen.toNat + s.cfg.hdrLen ≤ s.cfg.maxFrame →
      ∃ v q m1 m t, StagedReply s q ∧ Overlaid s.fb 0 (headerBytes { h with ctl := h.ctl &&& 0xFD#8 } ++ p) m1 ∧
        Overlaid m1 0 (builtFrame s h.src .data false q) m ∧
        t = answered (built { received s (s.cfg.hdrLen + p.length) rssi lq m1 with
            radio := .active, drspLen := 0#8, freeCtr := s.freeCtr + 1,
            out := s.out ++ [.cbFrameCompleteGw true p (BitVec.ofNat 8 p.length), .phyActive] } q m)
          (builtFrame s h.src .data false q) ∧
        exec (.edgeRx (envelopeOf h p rssi lq)) s =
          .next (returned v (if s.phyAccept then t else idled t))) ∧
    (h.ctl.getLsbD 1 = true → s.drspLen ≠ 0#8 → s.cfg.maxFrame < s.drspLen.toNat + s.cfg.hdrLen → ∃ v,
      exec (.edgeRx (envelopeOf h p rssi lq)) s = .next (returned v (idled
        { received s (s.cfg.hdrLen + p.length) rssi lq [] with
          drspLen := 0#8, freeCtr := s.freeCtr + 1, cause := some .capacity,
          out := s.out ++ [.cbFrameCompleteGw true p (BitVec.ofNat 8 p.length), .phyActive] })))

/-- `EDGE_RX` of a Link-Request a Gateway accepts (43_scheduler_fsm sections 2 and 3, R189, R197). The place of CRC-OK
and of the LQI in the last byte, and what the length prefix counts, are presumed (log 19); the status byte is any value
(log 13). -/
def Obligations.GatewayReceivesLinkRequest : Prop :=
  ∀ (s : State) (h : Header) (p : Bytes) (rssi lq : Byte), s.inited = true → s.cfg.role = .gw →
    s.cfg.valid = true → FieldsSized s → s.st = .listening → h.Fits s.cfg →
    s.cfg.hdrLen + p.length ≤ s.cfg.maxFrame → 128 ≤ lq.toNat →
    h.ctl &&& 0xC1#8 = s.cfg.linkreqCode.setWidth 8 <<< 6 →
    h.dst = s.localAddr ∨ (∀ b ∈ h.dst, b = s.cfg.bcast) → h.pan = s.panid ∨ (∀ b ∈ h.pan, b = s.cfg.bcast) →
    ∃ v m1 m t, Overlaid s.fb 0 (headerBytes h ++ p) m1 ∧ Overlaid m1 0 (builtFrame s h.src .linkReq false []) m ∧
      t = answered (built { received s (s.cfg.hdrLen + p.length) rssi lq m1 with
          radio := .active,
          out := s.out ++ (if s.lrcb then [.cbLinkRequest h.pan h.src p (BitVec.ofNat 8 p.length)] else []) ++
            [.phyActive] } [] m) (builtFrame s h.src .linkReq false []) ∧
      exec (.edgeRx (envelopeOf h p rssi lq)) s =
        .next (returned v
          (if s.lrcb = true ∧ s.lrAccept = false then
            idled { received s (s.cfg.hdrLen + p.length) rssi lq m1 with
              out := s.out ++ [.cbLinkRequest h.pan h.src p (BitVec.ofNat 8 p.length)] }
          else if s.phyAccept then t else idled t))

/-- `EDGE_RX` of `n` bytes that fail the length or the CRC check, on either role (43_scheduler_fsm section 2, R189 to
R191; 42_frame_validate R160 to R162): no callback, the idle policy; the latches are written, and the bytes are in `FB`
as far as they fit. The place of CRC-OK and of the LQI in the last byte, and what the length prefix counts, are presumed
(log 19); the status byte is any value (log 13), the cause the trace label (log 16). -/
def Obligations.LengthAndCrcRejectionsAreSilent : Prop :=
  ∀ (s : State) (n : Byte) (f : Bytes) (rssi lq : Byte) (c : RejectCause), s.inited = true → s.st = .listening →
    f.length = n.toNat →
    (c = .rLength ∧ (n.toNat < s.cfg.hdrLen ∨ s.cfg.maxFrame < n.toNat)) ∨
      (c = .rCrc ∧ s.cfg.hdrLen ≤ n.toNat ∧ n.toNat ≤ s.cfg.maxFrame ∧ lq.toNat < 128) →
    ∃ v m, Overlaid s.fb 0 (if n.toNat ≤ s.cfg.maxFrame then f else []) m ∧
      exec (.edgeRx ([n] ++ f ++ [rssi] ++ [lq])) s = .next (returned v (idled
        { received s n.toNat rssi lq m with cause := some (.reject c) }))

/-- `EDGE_RX` of a frame the role's filter or the type check rejects (43_scheduler_fsm section 2, R191;
42_frame_validate R166 to R170): no callback, the idle policy, the frame stays in `FB` of an End Point. The decision
tables of R170, row by row. The place of CRC-OK and of the LQI in the last byte, and what the length prefix counts, are
presumed (log 19); the status byte is any value (log 13), the cause the trace label (log 16). -/
def Obligations.FilterRejectionsAreSilent : Prop :=
  ∀ (s : State) (h : Header) (p : Bytes) (rssi lq : Byte) (c : RejectCause), s.inited = true →
    s.cfg.valid = true → s.st = .listening → h.Fits s.cfg → s.cfg.hdrLen + p.length ≤ s.cfg.maxFrame →
    128 ≤ lq.toNat →
    (s.cfg.role = .ep →
      (c = .rMode ∧ h.ctl.getLsbD 0 = false) ∨
      (c = .rDest ∧ h.ctl.getLsbD 0 = true ∧ h.dst ≠ s.localAddr) ∨
      (c = .rPan ∧ h.ctl.getLsbD 0 = true ∧ h.dst = s.localAddr ∧ h.pan ≠ s.panid ∧
        (h.ctl.extractLsb' 6 2 ≠ s.cfg.linkreqCode ∨ LinkUp s ∨ s.fixed = true)) ∨
      (c = .rType ∧ h.ctl.getLsbD 0 = true ∧ h.dst = s.localAddr ∧ h.pan = s.panid ∧
        h.ctl.extractLsb' 6 2 ≠ 0#2 ∧ h.ctl.extractLsb' 6 2 ≠ s.cfg.linkreqCode)) →
    (s.cfg.role = .gw →
      (c = .rMode ∧ h.ctl.getLsbD 0 = true) ∨
      (c = .rDest ∧ h.ctl.getLsbD 0 = false ∧ h.dst ≠ s.localAddr ∧ ∃ b ∈ h.dst, b ≠ s.cfg.bcast) ∨
      (c = .rPan ∧ h.ctl.getLsbD 0 = false ∧ (h.dst = s.localAddr ∨ ∀ b ∈ h.dst, b = s.cfg.bcast) ∧
        h.pan ≠ s.panid ∧ ∃ b ∈ h.pan, b ≠ s.cfg.bcast) ∨
      (c = .rType ∧ h.ctl.getLsbD 0 = false ∧ (h.dst = s.localAddr ∨ ∀ b ∈ h.dst, b = s.cfg.bcast) ∧
        (h.pan = s.panid ∨ ∀ b ∈ h.pan, b = s.cfg.bcast) ∧
        h.ctl.extractLsb' 6 2 ≠ 0#2 ∧ h.ctl.extractLsb' 6 2 ≠ s.cfg.linkreqCode)) →
    ∃ v m, Overlaid s.fb 0 (headerBytes h ++ p) m ∧
      exec (.edgeRx (envelopeOf h p rssi lq)) s = .next (returned v (idled
        { received s (s.cfg.hdrLen + p.length) rssi lq m with cause := some (.reject c) }))

/-- The edge events outside their contract are refused (60_exceptions section 1, R277): an event that nothing in flight
explains, and an envelope whose size does not match its prefix (that the prefix counts the frame bytes alone is
presumed, log 19). -/
def Obligations.SpuriousAndMalformedEventsAreRefused : Prop :=
  ∀ (s : State) (env : Bytes), s.inited = true →
    (s.st ≠ .transmitting → exec .edgeTx s = .refused .uSpuriousEvent) ∧
    (s.st ≠ .listening → exec (.edgeRx env) s = .refused .uSpuriousEvent) ∧
    (s.st = .listening → (∀ n rest, env = n :: rest → env.length ≠ n.toNat + 3) →
      exec (.edgeRx env) s = .refused .uMalformedEnv)

/-- `TICK` (43_scheduler_fsm section 4, R199 to R201): nothing where no timeout is pending; else the counter goes down
by one, and at zero the pending bit is cleared and the timeout runs. -/
def Obligations.TickCountsDown : Prop :=
  ∀ s : State, s.inited = true →
    (¬ (s.cfg.role = .ep ∧ s.cfg.rxtoEn = true ∧ s.rxtoAct = true) →
      exec .tick s = .next { s with result := some .unit }) ∧
    (s.cfg.role = .ep → s.cfg.rxtoEn = true → s.rxtoAct = true → 2 ≤ s.rxto.toNat →
      exec .tick s = .next { s with rxto := BitVec.ofNat 16 (s.rxto.toNat - 1), result := some .unit }) ∧
    (s.cfg.role = .ep → s.cfg.rxtoEn = true → s.rxtoAct = true → s.rxto.toNat = 1 →
      exec .tick s = .next { s with
        rxto := 0#16, rxtoAct := false, busy := false, st := .idle, fbtag := .none, radio := .lowPower,
        cause := some .timeout, out := s.out ++ (if s.tocb then [.cbTimeout] else []) ++ [.phyLowPower],
        result := some .unit })

/-- The timeout fires on the `RXTO_TICKS`-th tick after the arming and not before (43_scheduler_fsm section 4, R201). -/
def Obligations.TimeoutFiresOnLastTick : Prop :=
  ∀ s : State, s.inited = true → s.cfg.valid = true → s.cfg.role = .ep → s.cfg.rxtoEn = true →
    (∀ n, n < s.cfg.rxtoTicks → ∃ t, ticks n (armed s) = .next t ∧ t.st = .listening ∧ t.busy = true ∧
      t.rxtoAct = true ∧ t.rxto.toNat = s.cfg.rxtoTicks - n ∧ t.out = (armed s).out) ∧
    (∃ t, ticks s.cfg.rxtoTicks (armed s) = .next t ∧ t.st = .idle ∧ t.busy = false ∧ t.rxtoAct = false ∧
      t.fbtag = .none ∧ t.out = (armed s).out ++ (if s.tocb then [.cbTimeout] else []) ++ [.phyLowPower])

/-! ## Frame classes -/

/-- The frame classes an End Point dispatches (30_encoding section 4, R106; how a class acts as an operation is log 6):
a Data frame of Gateway origin on the End Point's PAN id, and a Link-Request of Gateway origin it may adopt. -/
def Obligations.EndPointDispatchesGatewayClasses : Prop :=
  ∀ (s : State) (h : Header) (p : Bytes) (rsv : BitVec 4) (drq : Bool), s.inited = true → s.cfg.role = .ep →
    s.cfg.valid = true → HoldsFrame s h p → h.dst = s.localAddr →
    (h.pan = s.panid → ∃ m,
      Overlaid s.fb (s.cfg.panW + 2 * s.cfg.addrW) [(rsv.setWidth 8 <<< 2) ||| 0x01#8] m ∧
      exec (.fDataGw rsv drq) s = .next { s with
        fb := m, radio := .lowPower, out := s.out ++ [.cbFrameCompleteEp p s.len, .phyLowPower],
        result := some .unit }) ∧
    (h.pan = s.panid ∨ (¬ LinkUp s ∧ s.fixed = false) → ∃ m,
      Overlaid s.fb (s.cfg.panW + 2 * s.cfg.addrW)
        [(s.cfg.linkreqCode.setWidth 8 <<< 6) ||| (rsv.setWidth 8 <<< 2) ||| (if drq then 0x02#8 else 0#8) |||
          0x01#8] m ∧
      exec (.fLinkreqGw rsv drq) s = .next (answering .unit (idled (linked h.pan h.src { s with fb := m }))))

/-- The frame classes a Gateway dispatches (30_encoding section 4, R106; log 6): a Data frame of End Point origin, that
asks for nothing or finds nothing staged, or whose staged reply is sent, not taken, or too long; and a Link-Request of
End Point origin, denied by the callback, or acknowledged because none is connected or it accepts. A reply byte the host
has not told is any value (log 10), the cause is the trace label (log 16). -/
def Obligations.GatewayDispatchesEndPointClasses : Prop :=
  ∀ (s : State) (h : Header) (p : Bytes) (rsv : BitVec 4) (drq : Bool), s.inited = true → s.cfg.role = .gw →
    s.cfg.valid = true → FieldsSized s → s.busy = false → HoldsFrame s h p →
    h.dst = s.localAddr ∨ (∀ b ∈ h.dst, b = s.cfg.bcast) → h.pan = s.panid ∨ (∀ b ∈ h.pan, b = s.cfg.bcast) →
    (drq = false ∨ s.drspLen = 0#8 →
      exec (.fDataEp rsv drq) s = .next (answering .unit (idled { s with
        out := s.out ++ [.cbFrameCompleteGw drq p s.len] }))) ∧
    (drq = true → s.drspLen ≠ 0#8 → s.drspLen.toNat + s.cfg.hdrLen ≤ s.cfg.maxFrame →
      ∃ q m1 m t, StagedReply s q ∧
        Overlaid s.fb (s.cfg.panW + 2 * s.cfg.addrW) [rsv.setWidth 8 <<< 2] m1 ∧
        Overlaid m1 0 (builtFrame s h.src .data false q) m ∧
        t = answered (built { s with
            radio := .active, drspLen := 0#8, freeCtr := s.freeCtr + 1,
            out := s.out ++ [.cbFrameCompleteGw true p s.len, .phyActive] } q m)
          (builtFrame s h.src .data false q) ∧
        exec (.fDataEp rsv drq) s = .next (answering .unit (if s.phyAccept then t else idled t))) ∧
    (drq = true → s.drspLen ≠ 0#8 → s.cfg.maxFrame < s.drspLen.toNat + s.cfg.hdrLen →
      exec (.fDataEp rsv drq) s = .next (answering .unit (idled { s with
        drspLen := 0#8, freeCtr := s.freeCtr + 1, cause := some .capacity,
        out := s.out ++ [.cbFrameCompleteGw true p s.len, .phyActive] }))) ∧
    (s.lrcb = true → s.lrAccept = false →
      exec (.fLinkreqEp rsv drq) s = .next (answering .unit (idled { s with
        out := s.out ++ [.cbLinkRequest h.pan h.src p s.len] }))) ∧
    (s.lrcb = false ∨ s.lrAccept = true → ∃ m1 m t,
      Overlaid s.fb (s.cfg.panW + 2 * s.cfg.addrW)
        [(s.cfg.linkreqCode.setWidth 8 <<< 6) ||| (rsv.setWidth 8 <<< 2) ||| (if drq then 0x02#8 else 0#8)] m1 ∧
      Overlaid m1 0 (builtFrame s h.src .linkReq false []) m ∧
      t = answered (built { s with
          radio := .active,
          out := s.out ++ (if s.lrcb then [.cbLinkRequest h.pan h.src p s.len] else []) ++ [.phyActive] } [] m)
        (builtFrame s h.src .linkReq false []) ∧
      exec (.fLinkreqEp rsv drq) s = .next (answering .unit (if s.phyAccept then t else idled t)))

/-- A reserved type that passes the role's filter is dropped with `R_TYPE`, and a frame of the receiver's own role with
`R_MODE` (30_encoding section 4, R98, R106; 42_frame_validate R166 to R168; log 6). -/
def Obligations.OtherFrameClassesAreRejected : Prop :=
  ∀ (s : State) (h : Header) (p : Bytes) (rsv : BitVec 4) (drq : Bool), s.inited = true → s.cfg.valid = true →
    HoldsFrame s h p →
    (∀ (ty : BitVec 2), ty ≠ 0#2 → ty ≠ s.cfg.linkreqCode → h.dst = s.localAddr → h.pan = s.panid → ∃ m,
      Overlaid s.fb (s.cfg.panW + 2 * s.cfg.addrW)
        [(ty.setWidth 8 <<< 6) ||| (rsv.setWidth 8 <<< 2) ||| (if drq then 0x02#8 else 0#8) |||
          (if s.cfg.role = .ep then 0x01#8 else 0#8)] m ∧
      exec (.fReserved ty rsv drq (decide (s.cfg.role = .ep))) s = .next (answering .unit (idled
        { s with fb := m, cause := some (.reject .rType) }))) ∧
    (∀ i, (s.cfg.role = .ep ∧ (i = .fDataEp rsv drq ∨ i = .fLinkreqEp rsv drq)) ∨
        (s.cfg.role = .gw ∧ (i = .fDataGw rsv drq ∨ i = .fLinkreqGw rsv drq)) →
      ∃ m b, encode s.cfg i = [b] ∧ Overlaid s.fb (s.cfg.panW + 2 * s.cfg.addrW) [b] m ∧
        exec i s = .next (answering .unit (idled { s with fb := m, cause := some (.reject .rMode) })))

/-! ## The whole machine -/

/-- The invariant holds at power-on of every BLMAC (10_state section 5, R43), the reset state among them. -/
def Obligations.InvariantHoldsAtReset : Prop :=
  Inv State.reset ∧ ∀ c : Config, c.valid = true → Inv (State.powerOn c)

/-- EVERY STEP KEEPS THE INVARIANT (10_state section 4, R39; 60_exceptions section 1, R276): (I1) to (I5) and (I8), the
widths of the registers, and the canonical form of every byte space, from every state that has them. -/
def Obligations.StepKeepsInvariant : Prop :=
  ∀ s t : State, Inv s → step s = .next t → Inv t

/-- No fatal error (60_exceptions section 1, R276): from a state with the invariant no step ends in a fault. -/
def Obligations.StepNeverFaults : Prop :=
  ∀ (s : State) (r : Fault), Inv s → step s ≠ .fault r

/-- The only inputs without a next state are those of the refusal table (60_exceptions section 1, R277): from an
initialised state with the invariant every well-formed input goes on, except under the condition of its cause; `U_ROLE`
on the operations that only the other role has (section 5, R292). What an envelope's prefix counts is presumed
(log 19). -/
def Obligations.OnlyTheContractRefuses : Prop :=
  ∀ (s : State) (i : Instr), Inv s → s.inited = true → i.isInput = true → i.wellFormed s.cfg = true →
    (∃ t, exec i s = .next t) ∨
    (exec i s = .refused .uReinit ∧ ∃ p a h l t, i = .init p a h l t ∨ i = .fInit p a h l t) ∨
    (exec i s = .refused .uRole ∧ s.cfg.role = .gw ∧
      (i = .linkexists ∨ (∃ p r, i = .linkestablish p r) ∨ i = .linkdestroy ∨ i = .getlink ∨ i = .disconnect ∨
        ∃ p, i = .connect p ∨ i = .simpletransfer p ∨ i = .transfer p)) ∨
    (exec i s = .refused .uRole ∧ s.cfg.role = .ep ∧
      ∃ ptr n, i = .setdrsp ptr n ∨ i = .loaddataresponse ptr n) ∨
    (exec i s = .refused .uSpuriousEvent ∧ i = .edgeTx ∧ s.st ≠ .transmitting) ∨
    (exec i s = .refused .uSpuriousEvent ∧ ∃ e, i = .edgeRx e ∧ s.st ≠ .listening) ∨
    (exec i s = .refused .uMalformedEnv ∧ ∃ e, i = .edgeRx e ∧ ∀ n rest, e = n :: rest → e.length ≠ n.toNat + 3) ∨
    (exec i s = .refused .uFbUndefined ∧ (i = .getlastsrc ∨ i = .getlastseq) ∧
      (s.fbtag = .none ∨ s.fbtag = .rxArmed)) ∨
    (exec i s = .refused .uFbUndefined ∧ s.cfg.role = .gw ∧ s.fbtag = .none ∧ ∃ ty drq p, i = .send ty drq p) ∨
    (exec i s = .refused .uLatchUndefined ∧ (i = .getrssi ∨ i = .getlqi ∨ i = .getcrc) ∧ s.lastV = false)

/-- The configuration never changes; host memory changes by the host's own stores alone and one input is taken off
(20_memory section of R66); what `INIT` fixes stays as it left it (00_scope section 4, R8; 10_state sections 2 and 3,
R23, R25, R33, R38). -/
def Obligations.IdentityAndHostMemoryAreKept : Prop :=
  ∀ s t : State, step s = .next t →
    t.cfg = s.cfg ∧
    (∀ r rest, s.pending = r :: rest → t.hm = s.hm.writeCells r.hostWrites ∧ t.pending = rest) ∧
    (s.inited = true → t.inited = true ∧ t.localAddr = s.localAddr ∧ t.fixed = s.fixed ∧ t.hook = s.hook ∧
      t.lrcb = s.lrcb ∧ t.tocb = s.tocb)

/-- A Gateway's PAN id and a fixed one never change after `INIT`; the link of an End Point changes only by
`LINKESTABLISH`, `LINKDESTROY`, `DISCONNECT` and a received frame (10_state sections 2 and 4, R22, R24, R39 (I7)). -/
def Obligations.RegistryChangesOnlyByLinkOperations : Prop :=
  ∀ (s t : State) (r : Request) (rest : List Request), s.inited = true → s.pending = r :: rest →
    step s = .next t →
    (s.cfg.role = .gw ∨ s.fixed = true → t.panid = s.panid) ∧
    (s.cfg.role = .gw → t.remote = s.remote) ∧
    (t.panid ≠ s.panid ∨ t.remote ≠ s.remote → ∃ i, decode s.cfg r.word = .ok i ∧
      (i = .linkdestroy ∨ i = .disconnect ∨ (∃ p q, i = .linkestablish p q) ∨ ∃ e, i = .edgeRx e))

/-- The sequence stamper (41_frame_build section of R145): a step hands over at most one frame, and `SEQ` advances by
exactly one with each, never otherwise. -/
def Obligations.SequenceAdvancesPerFrame : Prop :=
  ∀ (s t : State) (r : Request) (rest : List Request), s.inited = true → s.pending = r :: rest →
    step s = .next t →
    (framesSent t.out).length ≤ 1 ∧ t.seq = s.seq + BitVec.ofNat 8 (framesSent t.out).length

/-- A frame in flight is stable (44_buffer_arbiter sections of R222 and R225): while transmitting, no step but
`EDGE_TX` changes a byte of `FB`, its length, its tag or the state; and a frame just handed over and accepted stands in
`FB` byte for byte. -/
def Obligations.FrameInFlightIsStable : Prop :=
  ∀ (s t : State) (r : Request) (rest : List Request), Inv s → s.inited = true → s.pending = r :: rest →
    step s = .next t →
    (s.st = .transmitting → decode s.cfg r.word ≠ .ok .edgeTx →
      t.fb = s.fb ∧ t.len = s.len ∧ t.fbtag = s.fbtag ∧ t.st = .transmitting ∧ t.busy = true) ∧
    (t.st = .transmitting → ∀ b ∈ framesSent t.out, t.fb.readBytes 0 b.length = some b)

/-- The transitions of `ST` between steps are exactly those of the table (43_scheduler_fsm section 5, R205), with its
conditions: what leaves `Idle`, `Listening` and `Transmitting`, and where to; every other step keeps `ST`. In particular
a Gateway that has left `Idle` never comes back to it. The façade's sends are those of 45_facade_and_status; the place
of CRC-OK in the last byte of an envelope, and what its length prefix counts, are presumed (log 19). -/
def Obligations.StateTransitionsAreTheTable : Prop :=
  ∀ (s t : State) (r : Request) (rest : List Request) (i : Instr), Inv s → s.inited = true →
    s.pending = r :: rest → decode s.cfg r.word = .ok i → step s = .next t →
    (s.st = .idle →
      (t.st = .listening ↔ i = .listen) ∧
      (t.st = .transmitting ↔ s.cfg.role = .ep ∧ r.phyAccept = true ∧
        ∃ p, p.length + s.cfg.hdrLen ≤ s.cfg.maxFrame ∧ ((∃ ty drq, i = .send ty drq p) ∨ i = .simpletransfer p ∨
          (i = .connect p ∧ ¬ LinkUp s) ∨ (i = .transfer p ∧ LinkUp s)))) ∧
    (s.st = .listening →
      (t.st = .idle ↔ s.cfg.role = .ep ∧ ((∃ e, i = .edgeRx e) ∨
        (i = .tick ∧ s.cfg.rxtoEn = true ∧ s.rxtoAct = true ∧ s.rxto = 1#16))) ∧
      (t.st = .transmitting ↔ s.cfg.role = .gw ∧ r.phyAccept = true ∧
        ∃ h p rssi lq, i = .edgeRx (envelopeOf h p rssi lq) ∧ h.Fits s.cfg ∧
          s.cfg.hdrLen + p.length ≤ s.cfg.maxFrame ∧ 128 ≤ lq.toNat ∧ GatewayAnswers s h r.lrAccept)) ∧
    (s.st = .transmitting →
      (t.st = .idle ↔ i = .edgeTx ∧ s.cfg.role = .ep ∧ SentRequest s false) ∧
      (t.st = .listening ↔ i = .edgeTx ∧ (s.cfg.role = .gw ∨ SentRequest s true)))

/-- No rule's condition reads the shadows of the radio and of the address filter (10_state section 3, R36, R37): with
them blanked every operation has the same outcome, seen without them. -/
def Obligations.ShadowsAreNeverRead : Prop :=
  ∀ (i : Instr) (s : State),
    mapOutcome blankShadows (exec i (blankShadows s)) = mapOutcome blankShadows (exec i s)

/-- The reserved control bits (30_encoding R97): a builder sends them as 0, and two received frames that differ only in
them have the same outcome in every register and every action, and leave `FB` equal but for the control byte.What
the length prefix of an envelope counts is presumed (log 19). -/
def Obligations.ReservedBitsHaveNoEffect : Prop :=
  (∀ (c : Config) (ty : FrameType) (drq : Bool), buildCtl c ty drq &&& 0x3C#8 = 0#8) ∧
  (∀ (s t : State) (h : Header) (b : Byte) (p : Bytes) (rssi lq : Byte), s.cfg.valid = true → FieldsSized s →
    h.Fits s.cfg → (headerBytes h ++ p).length ≤ 255 → b &&& 0xC3#8 = h.ctl &&& 0xC3#8 →
    exec (.edgeRx (envelopeOf h p rssi lq)) s = .next t →
    ∃ u, exec (.edgeRx (envelopeOf { h with ctl := b } p rssi lq)) s = .next u ∧
      { u with fb := [] } = { t with fb := [] } ∧
      ∀ a, a ≠ s.cfg.panW + 2 * s.cfg.addrW → u.fb.read a = t.fb.read a)
end

