-- ==== Sys2Proof/Laws/Effects.lean ====
section
/-! SUPPORT. The effects the statements name, field by field: what each of them leaves unchanged. -/

namespace Sys2Proof.Machine

/-! ### armed -/

@[simp] theorem armed_cfg (s : State) : (armed s).cfg = s.cfg := rfl
@[simp] theorem armed_inited (s : State) : (armed s).inited = s.inited := rfl
@[simp] theorem armed_fixed (s : State) : (armed s).fixed = s.fixed := rfl
@[simp] theorem armed_panid (s : State) : (armed s).panid = s.panid := rfl
@[simp] theorem armed_localAddr (s : State) : (armed s).localAddr = s.localAddr := rfl
@[simp] theorem armed_remote (s : State) : (armed s).remote = s.remote := rfl
@[simp] theorem armed_hook (s : State) : (armed s).hook = s.hook := rfl
@[simp] theorem armed_len (s : State) : (armed s).len = s.len := rfl
@[simp] theorem armed_seq (s : State) : (armed s).seq = s.seq := rfl
@[simp] theorem armed_drspPtr (s : State) : (armed s).drspPtr = s.drspPtr := rfl
@[simp] theorem armed_drspLen (s : State) : (armed s).drspLen = s.drspLen := rfl
@[simp] theorem armed_lrcb (s : State) : (armed s).lrcb = s.lrcb := rfl
@[simp] theorem armed_tocb (s : State) : (armed s).tocb = s.tocb := rfl
@[simp] theorem armed_lastRssi (s : State) : (armed s).lastRssi = s.lastRssi := rfl
@[simp] theorem armed_lastLqi (s : State) : (armed s).lastLqi = s.lastLqi := rfl
@[simp] theorem armed_lastCrc (s : State) : (armed s).lastCrc = s.lastCrc := rfl
@[simp] theorem armed_lastV (s : State) : (armed s).lastV = s.lastV := rfl
@[simp] theorem armed_afEn (s : State) : (armed s).afEn = s.afEn := rfl
@[simp] theorem armed_afByte (s : State) : (armed s).afByte = s.afByte := rfl
@[simp] theorem armed_hm (s : State) : (armed s).hm = s.hm := rfl
@[simp] theorem armed_nv (s : State) : (armed s).nv = s.nv := rfl
@[simp] theorem armed_pending (s : State) : (armed s).pending = s.pending := rfl
@[simp] theorem armed_phyAccept (s : State) : (armed s).phyAccept = s.phyAccept := rfl
@[simp] theorem armed_lrAccept (s : State) : (armed s).lrAccept = s.lrAccept := rfl
@[simp] theorem armed_result (s : State) : (armed s).result = s.result := rfl
@[simp] theorem armed_cause (s : State) : (armed s).cause = s.cause := rfl
@[simp] theorem armed_freeCtr (s : State) : (armed s).freeCtr = s.freeCtr := rfl

/-! ### idled -/

@[simp] theorem idled_cfg (s : State) : (idled s).cfg = s.cfg := by
  unfold idled; split <;> rfl
@[simp] theorem idled_inited (s : State) : (idled s).inited = s.inited := by
  unfold idled; split <;> rfl
@[simp] theorem idled_fixed (s : State) : (idled s).fixed = s.fixed := by
  unfold idled; split <;> rfl
@[simp] theorem idled_panid (s : State) : (idled s).panid = s.panid := by
  unfold idled; split <;> rfl
@[simp] theorem idled_localAddr (s : State) : (idled s).localAddr = s.localAddr := by
  unfold idled; split <;> rfl
@[simp] theorem idled_remote (s : State) : (idled s).remote = s.remote := by
  unfold idled; split <;> rfl
@[simp] theorem idled_hook (s : State) : (idled s).hook = s.hook := by
  unfold idled; split <;> rfl
@[simp] theorem idled_len (s : State) : (idled s).len = s.len := by
  unfold idled; split <;> rfl
@[simp] theorem idled_seq (s : State) : (idled s).seq = s.seq := by
  unfold idled; split <;> rfl
@[simp] theorem idled_drspPtr (s : State) : (idled s).drspPtr = s.drspPtr := by
  unfold idled; split <;> rfl
@[simp] theorem idled_drspLen (s : State) : (idled s).drspLen = s.drspLen := by
  unfold idled; split <;> rfl
@[simp] theorem idled_lrcb (s : State) : (idled s).lrcb = s.lrcb := by
  unfold idled; split <;> rfl
@[simp] theorem idled_tocb (s : State) : (idled s).tocb = s.tocb := by
  unfold idled; split <;> rfl
@[simp] theorem idled_lastRssi (s : State) : (idled s).lastRssi = s.lastRssi := by
  unfold idled; split <;> rfl
@[simp] theorem idled_lastLqi (s : State) : (idled s).lastLqi = s.lastLqi := by
  unfold idled; split <;> rfl
@[simp] theorem idled_lastCrc (s : State) : (idled s).lastCrc = s.lastCrc := by
  unfold idled; split <;> rfl
@[simp] theorem idled_lastV (s : State) : (idled s).lastV = s.lastV := by
  unfold idled; split <;> rfl
@[simp] theorem idled_afEn (s : State) : (idled s).afEn = s.afEn := by
  unfold idled; split <;> rfl
@[simp] theorem idled_afByte (s : State) : (idled s).afByte = s.afByte := by
  unfold idled; split <;> rfl
@[simp] theorem idled_hm (s : State) : (idled s).hm = s.hm := by
  unfold idled; split <;> rfl
@[simp] theorem idled_nv (s : State) : (idled s).nv = s.nv := by
  unfold idled; split <;> rfl
@[simp] theorem idled_pending (s : State) : (idled s).pending = s.pending := by
  unfold idled; split <;> rfl
@[simp] theorem idled_phyAccept (s : State) : (idled s).phyAccept = s.phyAccept := by
  unfold idled; split <;> rfl
@[simp] theorem idled_lrAccept (s : State) : (idled s).lrAccept = s.lrAccept := by
  unfold idled; split <;> rfl
@[simp] theorem idled_result (s : State) : (idled s).result = s.result := by
  unfold idled; split <;> rfl
@[simp] theorem idled_cause (s : State) : (idled s).cause = s.cause := by
  unfold idled; split <;> rfl
@[simp] theorem idled_freeCtr (s : State) : (idled s).freeCtr = s.freeCtr := by
  unfold idled; split <;> rfl

/-! ### persisted -/

@[simp] theorem persisted_cfg (s : State) : (persisted s).cfg = s.cfg := by
  unfold persisted; split <;> rfl
@[simp] theorem persisted_inited (s : State) : (persisted s).inited = s.inited := by
  unfold persisted; split <;> rfl
@[simp] theorem persisted_fixed (s : State) : (persisted s).fixed = s.fixed := by
  unfold persisted; split <;> rfl
@[simp] theorem persisted_panid (s : State) : (persisted s).panid = s.panid := by
  unfold persisted; split <;> rfl
@[simp] theorem persisted_localAddr (s : State) : (persisted s).localAddr = s.localAddr := by
  unfold persisted; split <;> rfl
@[simp] theorem persisted_remote (s : State) : (persisted s).remote = s.remote := by
  unfold persisted; split <;> rfl
@[simp] theorem persisted_hook (s : State) : (persisted s).hook = s.hook := by
  unfold persisted; split <;> rfl
@[simp] theorem persisted_busy (s : State) : (persisted s).busy = s.busy := by
  unfold persisted; split <;> rfl
@[simp] theorem persisted_fb (s : State) : (persisted s).fb = s.fb := by
  unfold persisted; split <;> rfl
@[simp] theorem persisted_len (s : State) : (persisted s).len = s.len := by
  unfold persisted; split <;> rfl
@[simp] theorem persisted_seq (s : State) : (persisted s).seq = s.seq := by
  unfold persisted; split <;> rfl
@[simp] theorem persisted_drspPtr (s : State) : (persisted s).drspPtr = s.drspPtr := by
  unfold persisted; split <;> rfl
@[simp] theorem persisted_drspLen (s : State) : (persisted s).drspLen = s.drspLen := by
  unfold persisted; split <;> rfl
@[simp] theorem persisted_st (s : State) : (persisted s).st = s.st := by
  unfold persisted; split <;> rfl
@[simp] theorem persisted_fbtag (s : State) : (persisted s).fbtag = s.fbtag := by
  unfold persisted; split <;> rfl
@[simp] theorem persisted_lrcb (s : State) : (persisted s).lrcb = s.lrcb := by
  unfold persisted; split <;> rfl
@[simp] theorem persisted_tocb (s : State) : (persisted s).tocb = s.tocb := by
  unfold persisted; split <;> rfl
@[simp] theorem persisted_rxto (s : State) : (persisted s).rxto = s.rxto := by
  unfold persisted; split <;> rfl
@[simp] theorem persisted_rxtoAct (s : State) : (persisted s).rxtoAct = s.rxtoAct := by
  unfold persisted; split <;> rfl
@[simp] theorem persisted_lastRssi (s : State) : (persisted s).lastRssi = s.lastRssi := by
  unfold persisted; split <;> rfl
@[simp] theorem persisted_lastLqi (s : State) : (persisted s).lastLqi = s.lastLqi := by
  unfold persisted; split <;> rfl
@[simp] theorem persisted_lastCrc (s : State) : (persisted s).lastCrc = s.lastCrc := by
  unfold persisted; split <;> rfl
@[simp] theorem persisted_lastV (s : State) : (persisted s).lastV = s.lastV := by
  unfold persisted; split <;> rfl
@[simp] theorem persisted_radio (s : State) : (persisted s).radio = s.radio := by
  unfold persisted; split <;> rfl
@[simp] theorem persisted_afEn (s : State) : (persisted s).afEn = s.afEn := by
  unfold persisted; split <;> rfl
@[simp] theorem persisted_afByte (s : State) : (persisted s).afByte = s.afByte := by
  unfold persisted; split <;> rfl
@[simp] theorem persisted_hm (s : State) : (persisted s).hm = s.hm := by
  unfold persisted; split <;> rfl
@[simp] theorem persisted_pending (s : State) : (persisted s).pending = s.pending := by
  unfold persisted; split <;> rfl
@[simp] theorem persisted_phyAccept (s : State) : (persisted s).phyAccept = s.phyAccept := by
  unfold persisted; split <;> rfl
@[simp] theorem persisted_lrAccept (s : State) : (persisted s).lrAccept = s.lrAccept := by
  unfold persisted; split <;> rfl
@[simp] theorem persisted_result (s : State) : (persisted s).result = s.result := by
  unfold persisted; split <;> rfl
@[simp] theorem persisted_cause (s : State) : (persisted s).cause = s.cause := by
  unfold persisted; split <;> rfl
@[simp] theorem persisted_freeCtr (s : State) : (persisted s).freeCtr = s.freeCtr := by
  unfold persisted; split <;> rfl

/-! ### linked -/

@[simp] theorem linked_cfg (p r : Bytes) (s : State) : (linked p r s).cfg = s.cfg := by
  unfold linked; split <;> simp
@[simp] theorem linked_inited (p r : Bytes) (s : State) : (linked p r s).inited = s.inited := by
  unfold linked; split <;> simp
@[simp] theorem linked_fixed (p r : Bytes) (s : State) : (linked p r s).fixed = s.fixed := by
  unfold linked; split <;> simp
@[simp] theorem linked_localAddr (p r : Bytes) (s : State) : (linked p r s).localAddr = s.localAddr := by
  unfold linked; split <;> simp
@[simp] theorem linked_hook (p r : Bytes) (s : State) : (linked p r s).hook = s.hook := by
  unfold linked; split <;> simp
@[simp] theorem linked_busy (p r : Bytes) (s : State) : (linked p r s).busy = s.busy := by
  unfold linked; split <;> simp
@[simp] theorem linked_fb (p r : Bytes) (s : State) : (linked p r s).fb = s.fb := by
  unfold linked; split <;> simp
@[simp] theorem linked_len (p r : Bytes) (s : State) : (linked p r s).len = s.len := by
  unfold linked; split <;> simp
@[simp] theorem linked_seq (p r : Bytes) (s : State) : (linked p r s).seq = s.seq := by
  unfold linked; split <;> simp
@[simp] theorem linked_drspPtr (p r : Bytes) (s : State) : (linked p r s).drspPtr = s.drspPtr := by
  unfold linked; split <;> simp
@[simp] theorem linked_drspLen (p r : Bytes) (s : State) : (linked p r s).drspLen = s.drspLen := by
  unfold linked; split <;> simp
@[simp] theorem linked_st (p r : Bytes) (s : State) : (linked p r s).st = s.st := by
  unfold linked; split <;> simp
@[simp] theorem linked_fbtag (p r : Bytes) (s : State) : (linked p r s).fbtag = s.fbtag := by
  unfold linked; split <;> simp
@[simp] theorem linked_lrcb (p r : Bytes) (s : State) : (linked p r s).lrcb = s.lrcb := by
  unfold linked; split <;> simp
@[simp] theorem linked_tocb (p r : Bytes) (s : State) : (linked p r s).tocb = s.tocb := by
  unfold linked; split <;> simp
@[simp] theorem linked_rxto (p r : Bytes) (s : State) : (linked p r s).rxto = s.rxto := by
  unfold linked; split <;> simp
@[simp] theorem linked_rxtoAct (p r : Bytes) (s : State) : (linked p r s).rxtoAct = s.rxtoAct := by
  unfold linked; split <;> simp
@[simp] theorem linked_lastRssi (p r : Bytes) (s : State) : (linked p r s).lastRssi = s.lastRssi := by
  unfold linked; split <;> simp
@[simp] theorem linked_lastLqi (p r : Bytes) (s : State) : (linked p r s).lastLqi = s.lastLqi := by
  unfold linked; split <;> simp
@[simp] theorem linked_lastCrc (p r : Bytes) (s : State) : (linked p r s).lastCrc = s.lastCrc := by
  unfold linked; split <;> simp
@[simp] theorem linked_lastV (p r : Bytes) (s : State) : (linked p r s).lastV = s.lastV := by
  unfold linked; split <;> simp
@[simp] theorem linked_radio (p r : Bytes) (s : State) : (linked p r s).radio = s.radio := by
  unfold linked; split <;> simp
@[simp] theorem linked_hm (p r : Bytes) (s : State) : (linked p r s).hm = s.hm := by
  unfold linked; split <;> simp
@[simp] theorem linked_pending (p r : Bytes) (s : State) : (linked p r s).pending = s.pending := by
  unfold linked; split <;> simp
@[simp] theorem linked_phyAccept (p r : Bytes) (s : State) : (linked p r s).phyAccept = s.phyAccept := by
  unfold linked; split <;> simp
@[simp] theorem linked_lrAccept (p r : Bytes) (s : State) : (linked p r s).lrAccept = s.lrAccept := by
  unfold linked; split <;> simp
@[simp] theorem linked_result (p r : Bytes) (s : State) : (linked p r s).result = s.result := by
  unfold linked; split <;> simp
@[simp] theorem linked_cause (p r : Bytes) (s : State) : (linked p r s).cause = s.cause := by
  unfold linked; split <;> simp
@[simp] theorem linked_freeCtr (p r : Bytes) (s : State) : (linked p r s).freeCtr = s.freeCtr := by
  unfold linked; split <;> simp

/-! ### unlinked -/

@[simp] theorem unlinked_cfg (s : State) : (unlinked s).cfg = s.cfg := by
  unfold unlinked; split <;> simp
@[simp] theorem unlinked_inited (s : State) : (unlinked s).inited = s.inited := by
  unfold unlinked; split <;> simp
@[simp] theorem unlinked_fixed (s : State) : (unlinked s).fixed = s.fixed := by
  unfold unlinked; split <;> simp
@[simp] theorem unlinked_localAddr (s : State) : (unlinked s).localAddr = s.localAddr := by
  unfold unlinked; split <;> simp
@[simp] theorem unlinked_hook (s : State) : (unlinked s).hook = s.hook := by
  unfold unlinked; split <;> simp
@[simp] theorem unlinked_busy (s : State) : (unlinked s).busy = s.busy := by
  unfold unlinked; split <;> simp
@[simp] theorem unlinked_fb (s : State) : (unlinked s).fb = s.fb := by
  unfold unlinked; split <;> simp
@[simp] theorem unlinked_len (s : State) : (unlinked s).len = s.len := by
  unfold unlinked; split <;> simp
@[simp] theorem unlinked_seq (s : State) : (unlinked s).seq = s.seq := by
  unfold unlinked; split <;> simp
@[simp] theorem unlinked_drspPtr (s : State) : (unlinked s).drspPtr = s.drspPtr := by
  unfold unlinked; split <;> simp
@[simp] theorem unlinked_drspLen (s : State) : (unlinked s).drspLen = s.drspLen := by
  unfold unlinked; split <;> simp
@[simp] theorem unlinked_st (s : State) : (unlinked s).st = s.st := by
  unfold unlinked; split <;> simp
@[simp] theorem unlinked_fbtag (s : State) : (unlinked s).fbtag = s.fbtag := by
  unfold unlinked; split <;> simp
@[simp] theorem unlinked_lrcb (s : State) : (unlinked s).lrcb = s.lrcb := by
  unfold unlinked; split <;> simp
@[simp] theorem unlinked_tocb (s : State) : (unlinked s).tocb = s.tocb := by
  unfold unlinked; split <;> simp
@[simp] theorem unlinked_rxto (s : State) : (unlinked s).rxto = s.rxto := by
  unfold unlinked; split <;> simp
@[simp] theorem unlinked_rxtoAct (s : State) : (unlinked s).rxtoAct = s.rxtoAct := by
  unfold unlinked; split <;> simp
@[simp] theorem unlinked_lastRssi (s : State) : (unlinked s).lastRssi = s.lastRssi := by
  unfold unlinked; split <;> simp
@[simp] theorem unlinked_lastLqi (s : State) : (unlinked s).lastLqi = s.lastLqi := by
  unfold unlinked; split <;> simp
@[simp] theorem unlinked_lastCrc (s : State) : (unlinked s).lastCrc = s.lastCrc := by
  unfold unlinked; split <;> simp
@[simp] theorem unlinked_lastV (s : State) : (unlinked s).lastV = s.lastV := by
  unfold unlinked; split <;> simp
@[simp] theorem unlinked_radio (s : State) : (unlinked s).radio = s.radio := by
  unfold unlinked; split <;> simp
@[simp] theorem unlinked_afByte (s : State) : (unlinked s).afByte = s.afByte := by
  unfold unlinked; split <;> simp
@[simp] theorem unlinked_hm (s : State) : (unlinked s).hm = s.hm := by
  unfold unlinked; split <;> simp
@[simp] theorem unlinked_pending (s : State) : (unlinked s).pending = s.pending := by
  unfold unlinked; split <;> simp
@[simp] theorem unlinked_phyAccept (s : State) : (unlinked s).phyAccept = s.phyAccept := by
  unfold unlinked; split <;> simp
@[simp] theorem unlinked_lrAccept (s : State) : (unlinked s).lrAccept = s.lrAccept := by
  unfold unlinked; split <;> simp
@[simp] theorem unlinked_result (s : State) : (unlinked s).result = s.result := by
  unfold unlinked; split <;> simp
@[simp] theorem unlinked_cause (s : State) : (unlinked s).cause = s.cause := by
  unfold unlinked; split <;> simp
@[simp] theorem unlinked_freeCtr (s : State) : (unlinked s).freeCtr = s.freeCtr := by
  unfold unlinked; split <;> simp

/-! ### built -/

@[simp] theorem built_cfg (s : State) (p : Bytes) (m : Memory) : (built s p m).cfg = s.cfg := rfl
@[simp] theorem built_inited (s : State) (p : Bytes) (m : Memory) : (built s p m).inited = s.inited := rfl
@[simp] theorem built_fixed (s : State) (p : Bytes) (m : Memory) : (built s p m).fixed = s.fixed := rfl
@[simp] theorem built_panid (s : State) (p : Bytes) (m : Memory) : (built s p m).panid = s.panid := rfl
@[simp] theorem built_localAddr (s : State) (p : Bytes) (m : Memory) : (built s p m).localAddr = s.localAddr := rfl
@[simp] theorem built_remote (s : State) (p : Bytes) (m : Memory) : (built s p m).remote = s.remote := rfl
@[simp] theorem built_hook (s : State) (p : Bytes) (m : Memory) : (built s p m).hook = s.hook := rfl
@[simp] theorem built_busy (s : State) (p : Bytes) (m : Memory) : (built s p m).busy = s.busy := rfl
@[simp] theorem built_drspPtr (s : State) (p : Bytes) (m : Memory) : (built s p m).drspPtr = s.drspPtr := rfl
@[simp] theorem built_drspLen (s : State) (p : Bytes) (m : Memory) : (built s p m).drspLen = s.drspLen := rfl
@[simp] theorem built_st (s : State) (p : Bytes) (m : Memory) : (built s p m).st = s.st := rfl
@[simp] theorem built_lrcb (s : State) (p : Bytes) (m : Memory) : (built s p m).lrcb = s.lrcb := rfl
@[simp] theorem built_tocb (s : State) (p : Bytes) (m : Memory) : (built s p m).tocb = s.tocb := rfl
@[simp] theorem built_rxto (s : State) (p : Bytes) (m : Memory) : (built s p m).rxto = s.rxto := rfl
@[simp] theorem built_rxtoAct (s : State) (p : Bytes) (m : Memory) : (built s p m).rxtoAct = s.rxtoAct := rfl
@[simp] theorem built_lastRssi (s : State) (p : Bytes) (m : Memory) : (built s p m).lastRssi = s.lastRssi := rfl
@[simp] theorem built_lastLqi (s : State) (p : Bytes) (m : Memory) : (built s p m).lastLqi = s.lastLqi := rfl
@[simp] theorem built_lastCrc (s : State) (p : Bytes) (m : Memory) : (built s p m).lastCrc = s.lastCrc := rfl
@[simp] theorem built_lastV (s : State) (p : Bytes) (m : Memory) : (built s p m).lastV = s.lastV := rfl
@[simp] theorem built_radio (s : State) (p : Bytes) (m : Memory) : (built s p m).radio = s.radio := rfl
@[simp] theorem built_afEn (s : State) (p : Bytes) (m : Memory) : (built s p m).afEn = s.afEn := rfl
@[simp] theorem built_afByte (s : State) (p : Bytes) (m : Memory) : (built s p m).afByte = s.afByte := rfl
@[simp] theorem built_hm (s : State) (p : Bytes) (m : Memory) : (built s p m).hm = s.hm := rfl
@[simp] theorem built_nv (s : State) (p : Bytes) (m : Memory) : (built s p m).nv = s.nv := rfl
@[simp] theorem built_pending (s : State) (p : Bytes) (m : Memory) : (built s p m).pending = s.pending := rfl
@[simp] theorem built_phyAccept (s : State) (p : Bytes) (m : Memory) : (built s p m).phyAccept = s.phyAccept := rfl
@[simp] theorem built_lrAccept (s : State) (p : Bytes) (m : Memory) : (built s p m).lrAccept = s.lrAccept := rfl
@[simp] theorem built_out (s : State) (p : Bytes) (m : Memory) : (built s p m).out = s.out := rfl
@[simp] theorem built_result (s : State) (p : Bytes) (m : Memory) : (built s p m).result = s.result := rfl
@[simp] theorem built_cause (s : State) (p : Bytes) (m : Memory) : (built s p m).cause = s.cause := rfl
@[simp] theorem built_freeCtr (s : State) (p : Bytes) (m : Memory) : (built s p m).freeCtr = s.freeCtr := rfl

/-! ### answered -/

@[simp] theorem answered_cfg (s : State) (b : Bytes) : (answered s b).cfg = s.cfg := by
  unfold answered; split <;> rfl
@[simp] theorem answered_inited (s : State) (b : Bytes) : (answered s b).inited = s.inited := by
  unfold answered; split <;> rfl
@[simp] theorem answered_fixed (s : State) (b : Bytes) : (answered s b).fixed = s.fixed := by
  unfold answered; split <;> rfl
@[simp] theorem answered_panid (s : State) (b : Bytes) : (answered s b).panid = s.panid := by
  unfold answered; split <;> rfl
@[simp] theorem answered_localAddr (s : State) (b : Bytes) : (answered s b).localAddr = s.localAddr := by
  unfold answered; split <;> rfl
@[simp] theorem answered_remote (s : State) (b : Bytes) : (answered s b).remote = s.remote := by
  unfold answered; split <;> rfl
@[simp] theorem answered_hook (s : State) (b : Bytes) : (answered s b).hook = s.hook := by
  unfold answered; split <;> rfl
@[simp] theorem answered_fb (s : State) (b : Bytes) : (answered s b).fb = s.fb := by
  unfold answered; split <;> rfl
@[simp] theorem answered_len (s : State) (b : Bytes) : (answered s b).len = s.len := by
  unfold answered; split <;> rfl
@[simp] theorem answered_seq (s : State) (b : Bytes) : (answered s b).seq = s.seq := by
  unfold answered; split <;> rfl
@[simp] theorem answered_drspPtr (s : State) (b : Bytes) : (answered s b).drspPtr = s.drspPtr := by
  unfold answered; split <;> rfl
@[simp] theorem answered_drspLen (s : State) (b : Bytes) : (answered s b).drspLen = s.drspLen := by
  unfold answered; split <;> rfl
@[simp] theorem answered_fbtag (s : State) (b : Bytes) : (answered s b).fbtag = s.fbtag := by
  unfold answered; split <;> rfl
@[simp] theorem answered_lrcb (s : State) (b : Bytes) : (answered s b).lrcb = s.lrcb := by
  unfold answered; split <;> rfl
@[simp] theorem answered_tocb (s : State) (b : Bytes) : (answered s b).tocb = s.tocb := by
  unfold answered; split <;> rfl
@[simp] theorem answered_rxto (s : State) (b : Bytes) : (answered s b).rxto = s.rxto := by
  unfold answered; split <;> rfl
@[simp] theorem answered_rxtoAct (s : State) (b : Bytes) : (answered s b).rxtoAct = s.rxtoAct := by
  unfold answered; split <;> rfl
@[simp] theorem answered_lastRssi (s : State) (b : Bytes) : (answered s b).lastRssi = s.lastRssi := by
  unfold answered; split <;> rfl
@[simp] theorem answered_lastLqi (s : State) (b : Bytes) : (answered s b).lastLqi = s.lastLqi := by
  unfold answered; split <;> rfl
@[simp] theorem answered_lastCrc (s : State) (b : Bytes) : (answered s b).lastCrc = s.lastCrc := by
  unfold answered; split <;> rfl
@[simp] theorem answered_lastV (s : State) (b : Bytes) : (answered s b).lastV = s.lastV := by
  unfold answered; split <;> rfl
@[simp] theorem answered_afEn (s : State) (b : Bytes) : (answered s b).afEn = s.afEn := by
  unfold answered; split <;> rfl
@[simp] theorem answered_afByte (s : State) (b : Bytes) : (answered s b).afByte = s.afByte := by
  unfold answered; split <;> rfl
@[simp] theorem answered_hm (s : State) (b : Bytes) : (answered s b).hm = s.hm := by
  unfold answered; split <;> rfl
@[simp] theorem answered_nv (s : State) (b : Bytes) : (answered s b).nv = s.nv := by
  unfold answered; split <;> rfl
@[simp] theorem answered_pending (s : State) (b : Bytes) : (answered s b).pending = s.pending := by
  unfold answered; split <;> rfl
@[simp] theorem answered_phyAccept (s : State) (b : Bytes) : (answered s b).phyAccept = s.phyAccept := by
  unfold answered; split <;> rfl
@[simp] theorem answered_lrAccept (s : State) (b : Bytes) : (answered s b).lrAccept = s.lrAccept := by
  unfold answered; split <;> rfl
@[simp] theorem answered_result (s : State) (b : Bytes) : (answered s b).result = s.result := by
  unfold answered; split <;> rfl
@[simp] theorem answered_freeCtr (s : State) (b : Bytes) : (answered s b).freeCtr = s.freeCtr := by
  unfold answered; split <;> rfl

/-- Low power is the last command of an End Point's idle policy; a Gateway's ends armed. -/
theorem idled_ep {s : State} (h : s.cfg.role = .ep) :
    idled s = { s with radio := .lowPower, out := s.out ++ [.phyLowPower] } := by simp [idled, h]

theorem idled_gw {s : State} (h : s.cfg.role = .gw) :
    idled s = armed { s with out := s.out ++ [.phyLowPower] } := by simp [idled, h]

/-- What an edge event returns: a free status byte. -/
theorem retStatus_eq (s : State) : retStatus s = .next (returned (Config.edgeStatus s.freeCtr) s) := rfl

end Sys2Proof.Machine
end

