-- ==== Sys2Proof/Laws/Memory.lean ====
section
/-! SUPPORT. The laws of byte spaces: what a read sees after a write, and that every operation keeps the
canonical form. -/

namespace Sys2Proof.Machine

/-! ## Reads after writes -/

@[simp] theorem Memory.read_nil (a : Nat) : Memory.read [] a = none := rfl

/-- A read after a one-byte write sees that byte at its address and the old value everywhere else. -/
theorem Memory.read_write (m : Memory) (a : Nat) (v : Byte) (x : Nat) :
    (Memory.write m a v).read x = if x = a then some v else m.read x := by
  induction m with
  | nil => simp [Memory.write, Memory.read]
  | cons c m ih =>
    obtain ⟨b, w⟩ := c
    simp only [Memory.write]
    split
    · simp [Memory.read]
    · split
      · subst_vars
        simp only [Memory.read]
        split <;> simp_all
      · rename_i h1 h2
        simp only [Memory.read, ih]
        by_cases hxb : x = b
        · have hxa : x ≠ a := by omega
          simp [hxb, hxb ▸ hxa]
        · simp [hxb]

/-- A read after a write of a byte sequence sees the sequence inside its range and the old value outside. -/
theorem Memory.read_writeBytes (bs : Bytes) (m : Memory) (a x : Nat) :
    (Memory.writeBytes m a bs).read x =
      if a ≤ x ∧ x < a + bs.length then bs[x - a]? else m.read x := by
  induction bs generalizing m a with
  | nil => simp [Memory.writeBytes]
  | cons v vs ih =>
    simp only [Memory.writeBytes, ih, Memory.read_write, List.length_cons]
    by_cases hx : x = a
    · subst hx
      simp
    · by_cases h1 : a + 1 ≤ x ∧ x < a + 1 + vs.length
      · have h2 : a ≤ x ∧ x < a + (vs.length + 1) := by omega
        have h3 : x - a = (x - (a + 1)) + 1 := by omega
        rw [if_pos h1, if_pos h2, h3, List.getElem?_cons_succ]
      · have h2 : ¬ (a ≤ x ∧ x < a + (vs.length + 1)) := by omega
        rw [if_neg h1, if_neg h2, if_neg hx]

/-- A read of several bytes succeeds with `bs` exactly where each byte reads so. -/
theorem Memory.readBytes_eq_some (m : Memory) (n a : Nat) (bs : Bytes) :
    m.readBytes a n = some bs ↔ bs.length = n ∧ ∀ i, i < n → m.read (a + i) = bs[i]? := by
  induction n generalizing a bs with
  | zero =>
    simp only [Memory.readBytes, Option.some.injEq]
    constructor
    · rintro rfl
      simp
    · rintro ⟨h, -⟩
      exact (List.length_eq_zero_iff.mp h).symm
  | succ n ih =>
    simp only [Memory.readBytes]
    constructor
    · intro h
      split at h
      · rename_i v vs hv hvs
        obtain ⟨hl, hi⟩ := (ih _ _).mp hvs
        simp only [Option.some.injEq] at h
        subst h
        refine ⟨by simp [hl], ?_⟩
        intro i hlt
        cases i with
        | zero => simpa using hv
        | succ i =>
          have := hi i (by omega)
          rw [List.getElem?_cons_succ, ← this]
          congr 1
          omega
      · cases h
    · rintro ⟨hl, hi⟩
      cases bs with
      | nil => simp at hl
      | cons v vs =>
        have h0 := hi 0 (by omega)
        have hvs : m.readBytes (a + 1) n = some vs := by
          refine (ih _ _).mpr ⟨by simpa using hl, ?_⟩
          intro i hlt
          have := hi (i + 1) (by omega)
          rw [List.getElem?_cons_succ] at this
          rw [← this]
          congr 1
          omega
        simp only [Nat.add_zero, List.getElem?_cons_zero] at h0
        rw [h0, hvs]

/-- Reading back what was just written. -/
theorem Memory.readBytes_writeBytes_self (m : Memory) (a : Nat) (bs : Bytes) :
    (Memory.writeBytes m a bs).readBytes a bs.length = some bs := by
  rw [Memory.readBytes_eq_some]
  refine ⟨rfl, ?_⟩
  intro i hi
  rw [Memory.read_writeBytes, if_pos ⟨by omega, by omega⟩]
  congr 1
  omega

/-- Reading back a part of what was just written. -/
theorem Memory.readBytes_writeBytes_part (m : Memory) (a k n : Nat) (bs : Bytes) (h : k + n ≤ bs.length) :
    (Memory.writeBytes m a bs).readBytes (a + k) n = some ((bs.drop k).take n) := by
  rw [Memory.readBytes_eq_some]
  refine ⟨by simp; omega, ?_⟩
  intro i hi
  rw [Memory.read_writeBytes, if_pos ⟨by omega, by omega⟩, List.getElem?_take_of_lt hi, List.getElem?_drop]
  congr 1
  omega

/-- A part of a range that reads as `bs`. -/
theorem Memory.readBytes_part {m : Memory} {a n : Nat} {bs : Bytes} (h : m.readBytes a n = some bs) {k l : Nat}
    (hkl : k + l ≤ n) : m.readBytes (a + k) l = some ((bs.drop k).take l) := by
  obtain ⟨hl, hi⟩ := (Memory.readBytes_eq_some _ _ _ _).mp h
  rw [Memory.readBytes_eq_some]
  refine ⟨by simp; omega, ?_⟩
  intro i hlt
  have := hi (k + i) (by omega)
  rw [List.getElem?_take_of_lt hlt, List.getElem?_drop, ← this, Nat.add_assoc]

/-- One byte of a range that reads as `bs`. -/
theorem Memory.read_of_readBytes {m : Memory} {a n : Nat} {bs : Bytes} (h : m.readBytes a n = some bs) {k : Nat}
    (hk : k < n) : m.read (a + k) = bs[k]? :=
  ((Memory.readBytes_eq_some _ _ _ _).mp h).2 k hk

/-- A range outside what was written reads as before. -/
theorem Memory.readBytes_writeBytes_of_disjoint (m : Memory) (a b n : Nat) (bs : Bytes)
    (h : b + n ≤ a ∨ a + bs.length ≤ b) : (Memory.writeBytes m a bs).readBytes b n = m.readBytes b n := by
  induction n generalizing b with
  | zero => rfl
  | succ n ih =>
    have h1 : (Memory.writeBytes m a bs).read b = m.read b := by
      rw [Memory.read_writeBytes, if_neg (by omega)]
    have h2 := ih (b + 1) (by omega)
    simp only [Memory.readBytes, h1, h2]

/-! ## Canonical form -/

/-- The head of a canonical space lies below the rest. -/
theorem Memory.wf_cons (a : Nat) (v : Byte) (m : Memory) :
    Memory.wf ((a, v) :: m) = true ↔ (∀ c ∈ m, a < c.1) ∧ Memory.wf m = true := by
  induction m generalizing a v with
  | nil => simp [Memory.wf]
  | cons c m ih =>
    obtain ⟨b, w⟩ := c
    simp only [Memory.wf, Bool.and_eq_true, decide_eq_true_eq, List.mem_cons, forall_eq_or_imp]
    constructor
    · rintro ⟨hab, hm⟩
      have := (ih b w).mp hm
      exact ⟨⟨hab, fun c hc => lt_trans hab (this.1 c hc)⟩, hm⟩
    · rintro ⟨⟨hab, -⟩, hm⟩
      exact ⟨hab, hm⟩

/-- The addresses after a write are the old ones and the written one. -/
theorem Memory.mem_write {m : Memory} {a : Nat} {v : Byte} {c : Host.Cell} (h : c ∈ Memory.write m a v) :
    c = (a, v) ∨ c ∈ m := by
  induction m with
  | nil => simpa [Memory.write] using h
  | cons d m ih =>
    obtain ⟨b, w⟩ := d
    simp only [Memory.write] at h
    split at h
    · simpa using h
    · split at h
      · simp only [List.mem_cons] at h ⊢
        tauto
      · simp only [List.mem_cons] at h ⊢
        rcases h with h | h
        · exact .inr (.inl h)
        · rcases ih h with h | h
          · exact .inl h
          · exact .inr (.inr h)

/-- A one-byte write keeps the canonical form. -/
theorem Memory.wf_write {m : Memory} (a : Nat) (v : Byte) (h : Memory.wf m = true) :
    Memory.wf (Memory.write m a v) = true := by
  induction m with
  | nil => rfl
  | cons d m ih =>
    obtain ⟨b, w⟩ := d
    obtain ⟨hb, hm⟩ := (Memory.wf_cons _ _ _).mp h
    simp only [Memory.write]
    split
    · rename_i hab
      refine (Memory.wf_cons _ _ _).mpr ⟨?_, h⟩
      simp only [List.mem_cons, forall_eq_or_imp]
      exact ⟨hab, fun c hc => lt_trans hab (hb c hc)⟩
    · split
      · rename_i hab
        subst hab
        exact (Memory.wf_cons _ _ _).mpr ⟨hb, hm⟩
      · refine (Memory.wf_cons _ _ _).mpr ⟨?_, ih hm⟩
        intro c hc
        rcases Memory.mem_write hc with rfl | hc
        · simp only
          omega
        · exact hb c hc

/-- A write of a byte sequence keeps the canonical form. -/
theorem Memory.wf_writeBytes (bs : Bytes) {m : Memory} (a : Nat) (h : Memory.wf m = true) :
    Memory.wf (Memory.writeBytes m a bs) = true := by
  induction bs generalizing m a with
  | nil => exact h
  | cons v vs ih => exact ih _ (Memory.wf_write a v h)

/-- Host stores keep the canonical form. -/
theorem Memory.wf_writeCells (cs : Memory) {m : Memory} (h : Memory.wf m = true) :
    Memory.wf (Memory.writeCells m cs) = true := by
  induction cs generalizing m with
  | nil => exact h
  | cons c cs ih => exact ih (Memory.wf_write c.1 c.2 h)

/-- A one-byte write below `n` keeps every address below `n`. -/
theorem Memory.below_write {m : Memory} {n a : Nat} (v : Byte) (h : Memory.below m n = true) (ha : a < n) :
    Memory.below (Memory.write m a v) n = true := by
  simp only [Memory.below, List.all_eq_true, decide_eq_true_eq] at h ⊢
  intro c hc
  rcases Memory.mem_write hc with rfl | hc
  · exact ha
  · exact h c hc

/-- A write of a byte sequence below `n` keeps every address below `n`. -/
theorem Memory.below_writeBytes (bs : Bytes) {m : Memory} {n a : Nat} (h : Memory.below m n = true)
    (ha : a + bs.length ≤ n) : Memory.below (Memory.writeBytes m a bs) n = true := by
  induction bs generalizing m a with
  | nil => exact h
  | cons v vs ih =>
    simp only [List.length_cons] at ha
    exact ih (Memory.below_write v h (by omega)) (by omega)

/-- Writing the same byte again changes nothing. -/
theorem Memory.write_write_self (m : Memory) (a : Nat) (v : Byte) : (m.write a v).write a v = m.write a v := by
  induction m with
  | nil => simp [Memory.write]
  | cons c m ih =>
    obtain ⟨b, w⟩ := c
    by_cases h1 : a < b
    · simp [Memory.write, h1]
    · by_cases h2 : a = b
      · simp [Memory.write, h2]
      · simp [Memory.write, h1, h2, ih]

/-- Writes to two addresses commute. -/
theorem Memory.write_comm (m : Memory) {a b : Nat} (v w : Byte) (hab : a < b) :
    (m.write b w).write a v = (m.write a v).write b w := by
  have n1 : ¬ b < a := by omega
  have n2 : ¬ b = a := by omega
  induction m with
  | nil => simp [Memory.write, hab, n1, n2]
  | cons c m ih =>
    obtain ⟨d, x⟩ := c
    by_cases h1 : a < d
    · have e1 : Memory.write ((d, x) :: m) a v = (a, v) :: (d, x) :: m := by simp [Memory.write, h1]
      rw [e1]
      by_cases h2 : b < d
      · simp [Memory.write, h2, hab, n1, n2]
      · by_cases h3 : b = d
        · subst h3; simp [Memory.write, hab, n1, n2]
        · simp [Memory.write, h2, h3, h1, n1, n2]
    · have h2 : ¬ b < d := by omega
      have h3 : ¬ b = d := by omega
      by_cases h4 : a = d
      · subst h4; simp [Memory.write, n1, n2]
      · simp [Memory.write, h1, h2, h3, h4, ih]

/-- Storing the same bytes again changes nothing. -/
theorem Memory.writeBytes_writeBytes_self (bs : Bytes) (m : Memory) (a : Nat) :
    (m.writeBytes a bs).writeBytes a bs = m.writeBytes a bs := by
  have push : ∀ (bs : Bytes) (m : Memory) (a b : Nat) (v : Byte), b < a →
      (m.writeBytes a bs).write b v = (m.write b v).writeBytes a bs := by
    intro bs
    induction bs with
    | nil => intros; rfl
    | cons x xs ih =>
      intro m a b v h
      simp only [Memory.writeBytes]
      rw [ih _ _ _ _ (by omega), Memory.write_comm _ _ _ h]
  induction bs generalizing m a with
  | nil => rfl
  | cons x xs ih =>
    simp only [Memory.writeBytes]
    rw [push _ _ _ _ _ (by omega), Memory.write_write_self, ih]

end Sys2Proof.Machine
end

