-- ==== Sys2Proof/Laws/State.lean ====
section
/-! SUPPORT. One lemma per field per update of State, each true by rfl, so that no proof unfolds a record
update. -/

namespace Sys2Proof.Machine

/-! ### emit -/

@[simp] theorem emit_cfg (a : Action) (s : State) : (emit a s).cfg = s.cfg := rfl
@[simp] theorem emit_inited (a : Action) (s : State) : (emit a s).inited = s.inited := rfl
@[simp] theorem emit_fixed (a : Action) (s : State) : (emit a s).fixed = s.fixed := rfl
@[simp] theorem emit_panid (a : Action) (s : State) : (emit a s).panid = s.panid := rfl
@[simp] theorem emit_localAddr (a : Action) (s : State) : (emit a s).localAddr = s.localAddr := rfl
@[simp] theorem emit_remote (a : Action) (s : State) : (emit a s).remote = s.remote := rfl
@[simp] theorem emit_hook (a : Action) (s : State) : (emit a s).hook = s.hook := rfl
@[simp] theorem emit_busy (a : Action) (s : State) : (emit a s).busy = s.busy := rfl
@[simp] theorem emit_fb (a : Action) (s : State) : (emit a s).fb = s.fb := rfl
@[simp] theorem emit_len (a : Action) (s : State) : (emit a s).len = s.len := rfl
@[simp] theorem emit_seq (a : Action) (s : State) : (emit a s).seq = s.seq := rfl
@[simp] theorem emit_drspPtr (a : Action) (s : State) : (emit a s).drspPtr = s.drspPtr := rfl
@[simp] theorem emit_drspLen (a : Action) (s : State) : (emit a s).drspLen = s.drspLen := rfl
@[simp] theorem emit_st (a : Action) (s : State) : (emit a s).st = s.st := rfl
@[simp] theorem emit_fbtag (a : Action) (s : State) : (emit a s).fbtag = s.fbtag := rfl
@[simp] theorem emit_lrcb (a : Action) (s : State) : (emit a s).lrcb = s.lrcb := rfl
@[simp] theorem emit_tocb (a : Action) (s : State) : (emit a s).tocb = s.tocb := rfl
@[simp] theorem emit_rxto (a : Action) (s : State) : (emit a s).rxto = s.rxto := rfl
@[simp] theorem emit_rxtoAct (a : Action) (s : State) : (emit a s).rxtoAct = s.rxtoAct := rfl
@[simp] theorem emit_lastRssi (a : Action) (s : State) : (emit a s).lastRssi = s.lastRssi := rfl
@[simp] theorem emit_lastLqi (a : Action) (s : State) : (emit a s).lastLqi = s.lastLqi := rfl
@[simp] theorem emit_lastCrc (a : Action) (s : State) : (emit a s).lastCrc = s.lastCrc := rfl
@[simp] theorem emit_lastV (a : Action) (s : State) : (emit a s).lastV = s.lastV := rfl
@[simp] theorem emit_radio (a : Action) (s : State) : (emit a s).radio = s.radio := rfl
@[simp] theorem emit_afEn (a : Action) (s : State) : (emit a s).afEn = s.afEn := rfl
@[simp] theorem emit_afByte (a : Action) (s : State) : (emit a s).afByte = s.afByte := rfl
@[simp] theorem emit_hm (a : Action) (s : State) : (emit a s).hm = s.hm := rfl
@[simp] theorem emit_nv (a : Action) (s : State) : (emit a s).nv = s.nv := rfl
@[simp] theorem emit_pending (a : Action) (s : State) : (emit a s).pending = s.pending := rfl
@[simp] theorem emit_phyAccept (a : Action) (s : State) : (emit a s).phyAccept = s.phyAccept := rfl
@[simp] theorem emit_lrAccept (a : Action) (s : State) : (emit a s).lrAccept = s.lrAccept := rfl
@[simp] theorem emit_out (a : Action) (s : State) : (emit a s).out = s.out ++ [a] := rfl
@[simp] theorem emit_result (a : Action) (s : State) : (emit a s).result = s.result := rfl
@[simp] theorem emit_cause (a : Action) (s : State) : (emit a s).cause = s.cause := rfl
@[simp] theorem emit_freeCtr (a : Action) (s : State) : (emit a s).freeCtr = s.freeCtr := rfl

/-! ### phyActive -/

@[simp] theorem phyActive_cfg (s : State) : (phyActive s).cfg = s.cfg := rfl
@[simp] theorem phyActive_inited (s : State) : (phyActive s).inited = s.inited := rfl
@[simp] theorem phyActive_fixed (s : State) : (phyActive s).fixed = s.fixed := rfl
@[simp] theorem phyActive_panid (s : State) : (phyActive s).panid = s.panid := rfl
@[simp] theorem phyActive_localAddr (s : State) : (phyActive s).localAddr = s.localAddr := rfl
@[simp] theorem phyActive_remote (s : State) : (phyActive s).remote = s.remote := rfl
@[simp] theorem phyActive_hook (s : State) : (phyActive s).hook = s.hook := rfl
@[simp] theorem phyActive_busy (s : State) : (phyActive s).busy = s.busy := rfl
@[simp] theorem phyActive_fb (s : State) : (phyActive s).fb = s.fb := rfl
@[simp] theorem phyActive_len (s : State) : (phyActive s).len = s.len := rfl
@[simp] theorem phyActive_seq (s : State) : (phyActive s).seq = s.seq := rfl
@[simp] theorem phyActive_drspPtr (s : State) : (phyActive s).drspPtr = s.drspPtr := rfl
@[simp] theorem phyActive_drspLen (s : State) : (phyActive s).drspLen = s.drspLen := rfl
@[simp] theorem phyActive_st (s : State) : (phyActive s).st = s.st := rfl
@[simp] theorem phyActive_fbtag (s : State) : (phyActive s).fbtag = s.fbtag := rfl
@[simp] theorem phyActive_lrcb (s : State) : (phyActive s).lrcb = s.lrcb := rfl
@[simp] theorem phyActive_tocb (s : State) : (phyActive s).tocb = s.tocb := rfl
@[simp] theorem phyActive_rxto (s : State) : (phyActive s).rxto = s.rxto := rfl
@[simp] theorem phyActive_rxtoAct (s : State) : (phyActive s).rxtoAct = s.rxtoAct := rfl
@[simp] theorem phyActive_lastRssi (s : State) : (phyActive s).lastRssi = s.lastRssi := rfl
@[simp] theorem phyActive_lastLqi (s : State) : (phyActive s).lastLqi = s.lastLqi := rfl
@[simp] theorem phyActive_lastCrc (s : State) : (phyActive s).lastCrc = s.lastCrc := rfl
@[simp] theorem phyActive_lastV (s : State) : (phyActive s).lastV = s.lastV := rfl
@[simp] theorem phyActive_radio (s : State) : (phyActive s).radio = .active := rfl
@[simp] theorem phyActive_afEn (s : State) : (phyActive s).afEn = s.afEn := rfl
@[simp] theorem phyActive_afByte (s : State) : (phyActive s).afByte = s.afByte := rfl
@[simp] theorem phyActive_hm (s : State) : (phyActive s).hm = s.hm := rfl
@[simp] theorem phyActive_nv (s : State) : (phyActive s).nv = s.nv := rfl
@[simp] theorem phyActive_pending (s : State) : (phyActive s).pending = s.pending := rfl
@[simp] theorem phyActive_phyAccept (s : State) : (phyActive s).phyAccept = s.phyAccept := rfl
@[simp] theorem phyActive_lrAccept (s : State) : (phyActive s).lrAccept = s.lrAccept := rfl
@[simp] theorem phyActive_out (s : State) : (phyActive s).out = s.out ++ [.phyActive] := rfl
@[simp] theorem phyActive_result (s : State) : (phyActive s).result = s.result := rfl
@[simp] theorem phyActive_cause (s : State) : (phyActive s).cause = s.cause := rfl
@[simp] theorem phyActive_freeCtr (s : State) : (phyActive s).freeCtr = s.freeCtr := rfl

/-! ### phyLowPower -/

@[simp] theorem phyLowPower_cfg (s : State) : (phyLowPower s).cfg = s.cfg := rfl
@[simp] theorem phyLowPower_inited (s : State) : (phyLowPower s).inited = s.inited := rfl
@[simp] theorem phyLowPower_fixed (s : State) : (phyLowPower s).fixed = s.fixed := rfl
@[simp] theorem phyLowPower_panid (s : State) : (phyLowPower s).panid = s.panid := rfl
@[simp] theorem phyLowPower_localAddr (s : State) : (phyLowPower s).localAddr = s.localAddr := rfl
@[simp] theorem phyLowPower_remote (s : State) : (phyLowPower s).remote = s.remote := rfl
@[simp] theorem phyLowPower_hook (s : State) : (phyLowPower s).hook = s.hook := rfl
@[simp] theorem phyLowPower_busy (s : State) : (phyLowPower s).busy = s.busy := rfl
@[simp] theorem phyLowPower_fb (s : State) : (phyLowPower s).fb = s.fb := rfl
@[simp] theorem phyLowPower_len (s : State) : (phyLowPower s).len = s.len := rfl
@[simp] theorem phyLowPower_seq (s : State) : (phyLowPower s).seq = s.seq := rfl
@[simp] theorem phyLowPower_drspPtr (s : State) : (phyLowPower s).drspPtr = s.drspPtr := rfl
@[simp] theorem phyLowPower_drspLen (s : State) : (phyLowPower s).drspLen = s.drspLen := rfl
@[simp] theorem phyLowPower_st (s : State) : (phyLowPower s).st = s.st := rfl
@[simp] theorem phyLowPower_fbtag (s : State) : (phyLowPower s).fbtag = s.fbtag := rfl
@[simp] theorem phyLowPower_lrcb (s : State) : (phyLowPower s).lrcb = s.lrcb := rfl
@[simp] theorem phyLowPower_tocb (s : State) : (phyLowPower s).tocb = s.tocb := rfl
@[simp] theorem phyLowPower_rxto (s : State) : (phyLowPower s).rxto = s.rxto := rfl
@[simp] theorem phyLowPower_rxtoAct (s : State) : (phyLowPower s).rxtoAct = s.rxtoAct := rfl
@[simp] theorem phyLowPower_lastRssi (s : State) : (phyLowPower s).lastRssi = s.lastRssi := rfl
@[simp] theorem phyLowPower_lastLqi (s : State) : (phyLowPower s).lastLqi = s.lastLqi := rfl
@[simp] theorem phyLowPower_lastCrc (s : State) : (phyLowPower s).lastCrc = s.lastCrc := rfl
@[simp] theorem phyLowPower_lastV (s : State) : (phyLowPower s).lastV = s.lastV := rfl
@[simp] theorem phyLowPower_radio (s : State) : (phyLowPower s).radio = .lowPower := rfl
@[simp] theorem phyLowPower_afEn (s : State) : (phyLowPower s).afEn = s.afEn := rfl
@[simp] theorem phyLowPower_afByte (s : State) : (phyLowPower s).afByte = s.afByte := rfl
@[simp] theorem phyLowPower_hm (s : State) : (phyLowPower s).hm = s.hm := rfl
@[simp] theorem phyLowPower_nv (s : State) : (phyLowPower s).nv = s.nv := rfl
@[simp] theorem phyLowPower_pending (s : State) : (phyLowPower s).pending = s.pending := rfl
@[simp] theorem phyLowPower_phyAccept (s : State) : (phyLowPower s).phyAccept = s.phyAccept := rfl
@[simp] theorem phyLowPower_lrAccept (s : State) : (phyLowPower s).lrAccept = s.lrAccept := rfl
@[simp] theorem phyLowPower_out (s : State) : (phyLowPower s).out = s.out ++ [.phyLowPower] := rfl
@[simp] theorem phyLowPower_result (s : State) : (phyLowPower s).result = s.result := rfl
@[simp] theorem phyLowPower_cause (s : State) : (phyLowPower s).cause = s.cause := rfl
@[simp] theorem phyLowPower_freeCtr (s : State) : (phyLowPower s).freeCtr = s.freeCtr := rfl

/-! ### afEnable -/

@[simp] theorem afEnable_cfg (b : Byte) (s : State) : (afEnable b s).cfg = s.cfg := rfl
@[simp] theorem afEnable_inited (b : Byte) (s : State) : (afEnable b s).inited = s.inited := rfl
@[simp] theorem afEnable_fixed (b : Byte) (s : State) : (afEnable b s).fixed = s.fixed := rfl
@[simp] theorem afEnable_panid (b : Byte) (s : State) : (afEnable b s).panid = s.panid := rfl
@[simp] theorem afEnable_localAddr (b : Byte) (s : State) : (afEnable b s).localAddr = s.localAddr := rfl
@[simp] theorem afEnable_remote (b : Byte) (s : State) : (afEnable b s).remote = s.remote := rfl
@[simp] theorem afEnable_hook (b : Byte) (s : State) : (afEnable b s).hook = s.hook := rfl
@[simp] theorem afEnable_busy (b : Byte) (s : State) : (afEnable b s).busy = s.busy := rfl
@[simp] theorem afEnable_fb (b : Byte) (s : State) : (afEnable b s).fb = s.fb := rfl
@[simp] theorem afEnable_len (b : Byte) (s : State) : (afEnable b s).len = s.len := rfl
@[simp] theorem afEnable_seq (b : Byte) (s : State) : (afEnable b s).seq = s.seq := rfl
@[simp] theorem afEnable_drspPtr (b : Byte) (s : State) : (afEnable b s).drspPtr = s.drspPtr := rfl
@[simp] theorem afEnable_drspLen (b : Byte) (s : State) : (afEnable b s).drspLen = s.drspLen := rfl
@[simp] theorem afEnable_st (b : Byte) (s : State) : (afEnable b s).st = s.st := rfl
@[simp] theorem afEnable_fbtag (b : Byte) (s : State) : (afEnable b s).fbtag = s.fbtag := rfl
@[simp] theorem afEnable_lrcb (b : Byte) (s : State) : (afEnable b s).lrcb = s.lrcb := rfl
@[simp] theorem afEnable_tocb (b : Byte) (s : State) : (afEnable b s).tocb = s.tocb := rfl
@[simp] theorem afEnable_rxto (b : Byte) (s : State) : (afEnable b s).rxto = s.rxto := rfl
@[simp] theorem afEnable_rxtoAct (b : Byte) (s : State) : (afEnable b s).rxtoAct = s.rxtoAct := rfl
@[simp] theorem afEnable_lastRssi (b : Byte) (s : State) : (afEnable b s).lastRssi = s.lastRssi := rfl
@[simp] theorem afEnable_lastLqi (b : Byte) (s : State) : (afEnable b s).lastLqi = s.lastLqi := rfl
@[simp] theorem afEnable_lastCrc (b : Byte) (s : State) : (afEnable b s).lastCrc = s.lastCrc := rfl
@[simp] theorem afEnable_lastV (b : Byte) (s : State) : (afEnable b s).lastV = s.lastV := rfl
@[simp] theorem afEnable_radio (b : Byte) (s : State) : (afEnable b s).radio = s.radio := rfl
@[simp] theorem afEnable_afEn (b : Byte) (s : State) : (afEnable b s).afEn = true := rfl
@[simp] theorem afEnable_afByte (b : Byte) (s : State) : (afEnable b s).afByte = b := rfl
@[simp] theorem afEnable_hm (b : Byte) (s : State) : (afEnable b s).hm = s.hm := rfl
@[simp] theorem afEnable_nv (b : Byte) (s : State) : (afEnable b s).nv = s.nv := rfl
@[simp] theorem afEnable_pending (b : Byte) (s : State) : (afEnable b s).pending = s.pending := rfl
@[simp] theorem afEnable_phyAccept (b : Byte) (s : State) : (afEnable b s).phyAccept = s.phyAccept := rfl
@[simp] theorem afEnable_lrAccept (b : Byte) (s : State) : (afEnable b s).lrAccept = s.lrAccept := rfl
@[simp] theorem afEnable_out (b : Byte) (s : State) : (afEnable b s).out = s.out ++ [.afEnable b] := rfl
@[simp] theorem afEnable_result (b : Byte) (s : State) : (afEnable b s).result = s.result := rfl
@[simp] theorem afEnable_cause (b : Byte) (s : State) : (afEnable b s).cause = s.cause := rfl
@[simp] theorem afEnable_freeCtr (b : Byte) (s : State) : (afEnable b s).freeCtr = s.freeCtr := rfl

/-! ### afDisable -/

@[simp] theorem afDisable_cfg (s : State) : (afDisable s).cfg = s.cfg := rfl
@[simp] theorem afDisable_inited (s : State) : (afDisable s).inited = s.inited := rfl
@[simp] theorem afDisable_fixed (s : State) : (afDisable s).fixed = s.fixed := rfl
@[simp] theorem afDisable_panid (s : State) : (afDisable s).panid = s.panid := rfl
@[simp] theorem afDisable_localAddr (s : State) : (afDisable s).localAddr = s.localAddr := rfl
@[simp] theorem afDisable_remote (s : State) : (afDisable s).remote = s.remote := rfl
@[simp] theorem afDisable_hook (s : State) : (afDisable s).hook = s.hook := rfl
@[simp] theorem afDisable_busy (s : State) : (afDisable s).busy = s.busy := rfl
@[simp] theorem afDisable_fb (s : State) : (afDisable s).fb = s.fb := rfl
@[simp] theorem afDisable_len (s : State) : (afDisable s).len = s.len := rfl
@[simp] theorem afDisable_seq (s : State) : (afDisable s).seq = s.seq := rfl
@[simp] theorem afDisable_drspPtr (s : State) : (afDisable s).drspPtr = s.drspPtr := rfl
@[simp] theorem afDisable_drspLen (s : State) : (afDisable s).drspLen = s.drspLen := rfl
@[simp] theorem afDisable_st (s : State) : (afDisable s).st = s.st := rfl
@[simp] theorem afDisable_fbtag (s : State) : (afDisable s).fbtag = s.fbtag := rfl
@[simp] theorem afDisable_lrcb (s : State) : (afDisable s).lrcb = s.lrcb := rfl
@[simp] theorem afDisable_tocb (s : State) : (afDisable s).tocb = s.tocb := rfl
@[simp] theorem afDisable_rxto (s : State) : (afDisable s).rxto = s.rxto := rfl
@[simp] theorem afDisable_rxtoAct (s : State) : (afDisable s).rxtoAct = s.rxtoAct := rfl
@[simp] theorem afDisable_lastRssi (s : State) : (afDisable s).lastRssi = s.lastRssi := rfl
@[simp] theorem afDisable_lastLqi (s : State) : (afDisable s).lastLqi = s.lastLqi := rfl
@[simp] theorem afDisable_lastCrc (s : State) : (afDisable s).lastCrc = s.lastCrc := rfl
@[simp] theorem afDisable_lastV (s : State) : (afDisable s).lastV = s.lastV := rfl
@[simp] theorem afDisable_radio (s : State) : (afDisable s).radio = s.radio := rfl
@[simp] theorem afDisable_afEn (s : State) : (afDisable s).afEn = false := rfl
@[simp] theorem afDisable_afByte (s : State) : (afDisable s).afByte = s.afByte := rfl
@[simp] theorem afDisable_hm (s : State) : (afDisable s).hm = s.hm := rfl
@[simp] theorem afDisable_nv (s : State) : (afDisable s).nv = s.nv := rfl
@[simp] theorem afDisable_pending (s : State) : (afDisable s).pending = s.pending := rfl
@[simp] theorem afDisable_phyAccept (s : State) : (afDisable s).phyAccept = s.phyAccept := rfl
@[simp] theorem afDisable_lrAccept (s : State) : (afDisable s).lrAccept = s.lrAccept := rfl
@[simp] theorem afDisable_out (s : State) : (afDisable s).out = s.out ++ [.afDisable] := rfl
@[simp] theorem afDisable_result (s : State) : (afDisable s).result = s.result := rfl
@[simp] theorem afDisable_cause (s : State) : (afDisable s).cause = s.cause := rfl
@[simp] theorem afDisable_freeCtr (s : State) : (afDisable s).freeCtr = s.freeCtr := rfl

/-! ### backupWrite -/

@[simp] theorem backupWrite_cfg (s : State) : (backupWrite s).cfg = s.cfg := rfl
@[simp] theorem backupWrite_inited (s : State) : (backupWrite s).inited = s.inited := rfl
@[simp] theorem backupWrite_fixed (s : State) : (backupWrite s).fixed = s.fixed := rfl
@[simp] theorem backupWrite_panid (s : State) : (backupWrite s).panid = s.panid := rfl
@[simp] theorem backupWrite_localAddr (s : State) : (backupWrite s).localAddr = s.localAddr := rfl
@[simp] theorem backupWrite_remote (s : State) : (backupWrite s).remote = s.remote := rfl
@[simp] theorem backupWrite_hook (s : State) : (backupWrite s).hook = s.hook := rfl
@[simp] theorem backupWrite_busy (s : State) : (backupWrite s).busy = s.busy := rfl
@[simp] theorem backupWrite_fb (s : State) : (backupWrite s).fb = s.fb := rfl
@[simp] theorem backupWrite_len (s : State) : (backupWrite s).len = s.len := rfl
@[simp] theorem backupWrite_seq (s : State) : (backupWrite s).seq = s.seq := rfl
@[simp] theorem backupWrite_drspPtr (s : State) : (backupWrite s).drspPtr = s.drspPtr := rfl
@[simp] theorem backupWrite_drspLen (s : State) : (backupWrite s).drspLen = s.drspLen := rfl
@[simp] theorem backupWrite_st (s : State) : (backupWrite s).st = s.st := rfl
@[simp] theorem backupWrite_fbtag (s : State) : (backupWrite s).fbtag = s.fbtag := rfl
@[simp] theorem backupWrite_lrcb (s : State) : (backupWrite s).lrcb = s.lrcb := rfl
@[simp] theorem backupWrite_tocb (s : State) : (backupWrite s).tocb = s.tocb := rfl
@[simp] theorem backupWrite_rxto (s : State) : (backupWrite s).rxto = s.rxto := rfl
@[simp] theorem backupWrite_rxtoAct (s : State) : (backupWrite s).rxtoAct = s.rxtoAct := rfl
@[simp] theorem backupWrite_lastRssi (s : State) : (backupWrite s).lastRssi = s.lastRssi := rfl
@[simp] theorem backupWrite_lastLqi (s : State) : (backupWrite s).lastLqi = s.lastLqi := rfl
@[simp] theorem backupWrite_lastCrc (s : State) : (backupWrite s).lastCrc = s.lastCrc := rfl
@[simp] theorem backupWrite_lastV (s : State) : (backupWrite s).lastV = s.lastV := rfl
@[simp] theorem backupWrite_radio (s : State) : (backupWrite s).radio = s.radio := rfl
@[simp] theorem backupWrite_afEn (s : State) : (backupWrite s).afEn = s.afEn := rfl
@[simp] theorem backupWrite_afByte (s : State) : (backupWrite s).afByte = s.afByte := rfl
@[simp] theorem backupWrite_hm (s : State) : (backupWrite s).hm = s.hm := rfl
@[simp] theorem backupWrite_nv (s : State) : (backupWrite s).nv = s.nv.writeBytes 0 (recordBytes s) := rfl
@[simp] theorem backupWrite_pending (s : State) : (backupWrite s).pending = s.pending := rfl
@[simp] theorem backupWrite_phyAccept (s : State) : (backupWrite s).phyAccept = s.phyAccept := rfl
@[simp] theorem backupWrite_lrAccept (s : State) : (backupWrite s).lrAccept = s.lrAccept := rfl
@[simp] theorem backupWrite_out (s : State) : (backupWrite s).out = s.out ++ [.backupWrite (recordBytes s)] := rfl
@[simp] theorem backupWrite_result (s : State) : (backupWrite s).result = s.result := rfl
@[simp] theorem backupWrite_cause (s : State) : (backupWrite s).cause = s.cause := rfl
@[simp] theorem backupWrite_freeCtr (s : State) : (backupWrite s).freeCtr = s.freeCtr := rfl

/-! ### failWith -/

@[simp] theorem failWith_cfg (c : Cause) (s : State) : (failWith c s).cfg = s.cfg := rfl
@[simp] theorem failWith_inited (c : Cause) (s : State) : (failWith c s).inited = s.inited := rfl
@[simp] theorem failWith_fixed (c : Cause) (s : State) : (failWith c s).fixed = s.fixed := rfl
@[simp] theorem failWith_panid (c : Cause) (s : State) : (failWith c s).panid = s.panid := rfl
@[simp] theorem failWith_localAddr (c : Cause) (s : State) : (failWith c s).localAddr = s.localAddr := rfl
@[simp] theorem failWith_remote (c : Cause) (s : State) : (failWith c s).remote = s.remote := rfl
@[simp] theorem failWith_hook (c : Cause) (s : State) : (failWith c s).hook = s.hook := rfl
@[simp] theorem failWith_busy (c : Cause) (s : State) : (failWith c s).busy = s.busy := rfl
@[simp] theorem failWith_fb (c : Cause) (s : State) : (failWith c s).fb = s.fb := rfl
@[simp] theorem failWith_len (c : Cause) (s : State) : (failWith c s).len = s.len := rfl
@[simp] theorem failWith_seq (c : Cause) (s : State) : (failWith c s).seq = s.seq := rfl
@[simp] theorem failWith_drspPtr (c : Cause) (s : State) : (failWith c s).drspPtr = s.drspPtr := rfl
@[simp] theorem failWith_drspLen (c : Cause) (s : State) : (failWith c s).drspLen = s.drspLen := rfl
@[simp] theorem failWith_st (c : Cause) (s : State) : (failWith c s).st = s.st := rfl
@[simp] theorem failWith_fbtag (c : Cause) (s : State) : (failWith c s).fbtag = s.fbtag := rfl
@[simp] theorem failWith_lrcb (c : Cause) (s : State) : (failWith c s).lrcb = s.lrcb := rfl
@[simp] theorem failWith_tocb (c : Cause) (s : State) : (failWith c s).tocb = s.tocb := rfl
@[simp] theorem failWith_rxto (c : Cause) (s : State) : (failWith c s).rxto = s.rxto := rfl
@[simp] theorem failWith_rxtoAct (c : Cause) (s : State) : (failWith c s).rxtoAct = s.rxtoAct := rfl
@[simp] theorem failWith_lastRssi (c : Cause) (s : State) : (failWith c s).lastRssi = s.lastRssi := rfl
@[simp] theorem failWith_lastLqi (c : Cause) (s : State) : (failWith c s).lastLqi = s.lastLqi := rfl
@[simp] theorem failWith_lastCrc (c : Cause) (s : State) : (failWith c s).lastCrc = s.lastCrc := rfl
@[simp] theorem failWith_lastV (c : Cause) (s : State) : (failWith c s).lastV = s.lastV := rfl
@[simp] theorem failWith_radio (c : Cause) (s : State) : (failWith c s).radio = s.radio := rfl
@[simp] theorem failWith_afEn (c : Cause) (s : State) : (failWith c s).afEn = s.afEn := rfl
@[simp] theorem failWith_afByte (c : Cause) (s : State) : (failWith c s).afByte = s.afByte := rfl
@[simp] theorem failWith_hm (c : Cause) (s : State) : (failWith c s).hm = s.hm := rfl
@[simp] theorem failWith_nv (c : Cause) (s : State) : (failWith c s).nv = s.nv := rfl
@[simp] theorem failWith_pending (c : Cause) (s : State) : (failWith c s).pending = s.pending := rfl
@[simp] theorem failWith_phyAccept (c : Cause) (s : State) : (failWith c s).phyAccept = s.phyAccept := rfl
@[simp] theorem failWith_lrAccept (c : Cause) (s : State) : (failWith c s).lrAccept = s.lrAccept := rfl
@[simp] theorem failWith_out (c : Cause) (s : State) : (failWith c s).out = s.out := rfl
@[simp] theorem failWith_result (c : Cause) (s : State) : (failWith c s).result = s.result := rfl
@[simp] theorem failWith_cause (c : Cause) (s : State) : (failWith c s).cause = some c := rfl
@[simp] theorem failWith_freeCtr (c : Cause) (s : State) : (failWith c s).freeCtr = s.freeCtr := rfl

/-! ### completionEntry -/

@[simp] theorem completionEntry_cfg (s : State) : (completionEntry s).cfg = s.cfg := rfl
@[simp] theorem completionEntry_inited (s : State) : (completionEntry s).inited = s.inited := rfl
@[simp] theorem completionEntry_fixed (s : State) : (completionEntry s).fixed = s.fixed := rfl
@[simp] theorem completionEntry_panid (s : State) : (completionEntry s).panid = s.panid := rfl
@[simp] theorem completionEntry_localAddr (s : State) : (completionEntry s).localAddr = s.localAddr := rfl
@[simp] theorem completionEntry_remote (s : State) : (completionEntry s).remote = s.remote := rfl
@[simp] theorem completionEntry_hook (s : State) : (completionEntry s).hook = s.hook := rfl
@[simp] theorem completionEntry_busy (s : State) : (completionEntry s).busy = false := rfl
@[simp] theorem completionEntry_fb (s : State) : (completionEntry s).fb = s.fb := rfl
@[simp] theorem completionEntry_len (s : State) : (completionEntry s).len = s.len := rfl
@[simp] theorem completionEntry_seq (s : State) : (completionEntry s).seq = s.seq := rfl
@[simp] theorem completionEntry_drspPtr (s : State) : (completionEntry s).drspPtr = s.drspPtr := rfl
@[simp] theorem completionEntry_drspLen (s : State) : (completionEntry s).drspLen = s.drspLen := rfl
@[simp] theorem completionEntry_st (s : State) : (completionEntry s).st = .idle := rfl
@[simp] theorem completionEntry_fbtag (s : State) : (completionEntry s).fbtag = s.fbtag := rfl
@[simp] theorem completionEntry_lrcb (s : State) : (completionEntry s).lrcb = s.lrcb := rfl
@[simp] theorem completionEntry_tocb (s : State) : (completionEntry s).tocb = s.tocb := rfl
@[simp] theorem completionEntry_rxto (s : State) : (completionEntry s).rxto = s.rxto := rfl
@[simp] theorem completionEntry_rxtoAct (s : State) : (completionEntry s).rxtoAct = s.rxtoAct := rfl
@[simp] theorem completionEntry_lastRssi (s : State) : (completionEntry s).lastRssi = s.lastRssi := rfl
@[simp] theorem completionEntry_lastLqi (s : State) : (completionEntry s).lastLqi = s.lastLqi := rfl
@[simp] theorem completionEntry_lastCrc (s : State) : (completionEntry s).lastCrc = s.lastCrc := rfl
@[simp] theorem completionEntry_lastV (s : State) : (completionEntry s).lastV = s.lastV := rfl
@[simp] theorem completionEntry_radio (s : State) : (completionEntry s).radio = s.radio := rfl
@[simp] theorem completionEntry_afEn (s : State) : (completionEntry s).afEn = s.afEn := rfl
@[simp] theorem completionEntry_afByte (s : State) : (completionEntry s).afByte = s.afByte := rfl
@[simp] theorem completionEntry_hm (s : State) : (completionEntry s).hm = s.hm := rfl
@[simp] theorem completionEntry_nv (s : State) : (completionEntry s).nv = s.nv := rfl
@[simp] theorem completionEntry_pending (s : State) : (completionEntry s).pending = s.pending := rfl
@[simp] theorem completionEntry_phyAccept (s : State) : (completionEntry s).phyAccept = s.phyAccept := rfl
@[simp] theorem completionEntry_lrAccept (s : State) : (completionEntry s).lrAccept = s.lrAccept := rfl
@[simp] theorem completionEntry_out (s : State) : (completionEntry s).out = s.out := rfl
@[simp] theorem completionEntry_result (s : State) : (completionEntry s).result = s.result := rfl
@[simp] theorem completionEntry_cause (s : State) : (completionEntry s).cause = s.cause := rfl
@[simp] theorem completionEntry_freeCtr (s : State) : (completionEntry s).freeCtr = s.freeCtr := rfl

/-! ### stageResponse -/

@[simp] theorem stageResponse_cfg (p : Nat) (n : Byte) (s : State) : (stageResponse p n s).cfg = s.cfg := rfl
@[simp] theorem stageResponse_inited (p : Nat) (n : Byte) (s : State) : (stageResponse p n s).inited = s.inited := rfl
@[simp] theorem stageResponse_fixed (p : Nat) (n : Byte) (s : State) : (stageResponse p n s).fixed = s.fixed := rfl
@[simp] theorem stageResponse_panid (p : Nat) (n : Byte) (s : State) : (stageResponse p n s).panid = s.panid := rfl
@[simp] theorem stageResponse_localAddr (p : Nat) (n : Byte) (s : State) : (stageResponse p n s).localAddr = s.localAddr := rfl
@[simp] theorem stageResponse_remote (p : Nat) (n : Byte) (s : State) : (stageResponse p n s).remote = s.remote := rfl
@[simp] theorem stageResponse_hook (p : Nat) (n : Byte) (s : State) : (stageResponse p n s).hook = s.hook := rfl
@[simp] theorem stageResponse_busy (p : Nat) (n : Byte) (s : State) : (stageResponse p n s).busy = s.busy := rfl
@[simp] theorem stageResponse_fb (p : Nat) (n : Byte) (s : State) : (stageResponse p n s).fb = s.fb := rfl
@[simp] theorem stageResponse_len (p : Nat) (n : Byte) (s : State) : (stageResponse p n s).len = s.len := rfl
@[simp] theorem stageResponse_seq (p : Nat) (n : Byte) (s : State) : (stageResponse p n s).seq = s.seq := rfl
@[simp] theorem stageResponse_drspPtr (p : Nat) (n : Byte) (s : State) : (stageResponse p n s).drspPtr = p := rfl
@[simp] theorem stageResponse_drspLen (p : Nat) (n : Byte) (s : State) : (stageResponse p n s).drspLen = n := rfl
@[simp] theorem stageResponse_st (p : Nat) (n : Byte) (s : State) : (stageResponse p n s).st = s.st := rfl
@[simp] theorem stageResponse_fbtag (p : Nat) (n : Byte) (s : State) : (stageResponse p n s).fbtag = s.fbtag := rfl
@[simp] theorem stageResponse_lrcb (p : Nat) (n : Byte) (s : State) : (stageResponse p n s).lrcb = s.lrcb := rfl
@[simp] theorem stageResponse_tocb (p : Nat) (n : Byte) (s : State) : (stageResponse p n s).tocb = s.tocb := rfl
@[simp] theorem stageResponse_rxto (p : Nat) (n : Byte) (s : State) : (stageResponse p n s).rxto = s.rxto := rfl
@[simp] theorem stageResponse_rxtoAct (p : Nat) (n : Byte) (s : State) : (stageResponse p n s).rxtoAct = s.rxtoAct := rfl
@[simp] theorem stageResponse_lastRssi (p : Nat) (n : Byte) (s : State) : (stageResponse p n s).lastRssi = s.lastRssi := rfl
@[simp] theorem stageResponse_lastLqi (p : Nat) (n : Byte) (s : State) : (stageResponse p n s).lastLqi = s.lastLqi := rfl
@[simp] theorem stageResponse_lastCrc (p : Nat) (n : Byte) (s : State) : (stageResponse p n s).lastCrc = s.lastCrc := rfl
@[simp] theorem stageResponse_lastV (p : Nat) (n : Byte) (s : State) : (stageResponse p n s).lastV = s.lastV := rfl
@[simp] theorem stageResponse_radio (p : Nat) (n : Byte) (s : State) : (stageResponse p n s).radio = s.radio := rfl
@[simp] theorem stageResponse_afEn (p : Nat) (n : Byte) (s : State) : (stageResponse p n s).afEn = s.afEn := rfl
@[simp] theorem stageResponse_afByte (p : Nat) (n : Byte) (s : State) : (stageResponse p n s).afByte = s.afByte := rfl
@[simp] theorem stageResponse_hm (p : Nat) (n : Byte) (s : State) : (stageResponse p n s).hm = s.hm := rfl
@[simp] theorem stageResponse_nv (p : Nat) (n : Byte) (s : State) : (stageResponse p n s).nv = s.nv := rfl
@[simp] theorem stageResponse_pending (p : Nat) (n : Byte) (s : State) : (stageResponse p n s).pending = s.pending := rfl
@[simp] theorem stageResponse_phyAccept (p : Nat) (n : Byte) (s : State) : (stageResponse p n s).phyAccept = s.phyAccept := rfl
@[simp] theorem stageResponse_lrAccept (p : Nat) (n : Byte) (s : State) : (stageResponse p n s).lrAccept = s.lrAccept := rfl
@[simp] theorem stageResponse_out (p : Nat) (n : Byte) (s : State) : (stageResponse p n s).out = s.out := rfl
@[simp] theorem stageResponse_result (p : Nat) (n : Byte) (s : State) : (stageResponse p n s).result = s.result := rfl
@[simp] theorem stageResponse_cause (p : Nat) (n : Byte) (s : State) : (stageResponse p n s).cause = s.cause := rfl
@[simp] theorem stageResponse_freeCtr (p : Nat) (n : Byte) (s : State) : (stageResponse p n s).freeCtr = s.freeCtr := rfl

/-! ### takeResponse -/

@[simp] theorem takeResponse_cfg (s : State) : (takeResponse s).cfg = s.cfg := rfl
@[simp] theorem takeResponse_inited (s : State) : (takeResponse s).inited = s.inited := rfl
@[simp] theorem takeResponse_fixed (s : State) : (takeResponse s).fixed = s.fixed := rfl
@[simp] theorem takeResponse_panid (s : State) : (takeResponse s).panid = s.panid := rfl
@[simp] theorem takeResponse_localAddr (s : State) : (takeResponse s).localAddr = s.localAddr := rfl
@[simp] theorem takeResponse_remote (s : State) : (takeResponse s).remote = s.remote := rfl
@[simp] theorem takeResponse_hook (s : State) : (takeResponse s).hook = s.hook := rfl
@[simp] theorem takeResponse_busy (s : State) : (takeResponse s).busy = s.busy := rfl
@[simp] theorem takeResponse_fb (s : State) : (takeResponse s).fb = s.fb := rfl
@[simp] theorem takeResponse_len (s : State) : (takeResponse s).len = s.len := rfl
@[simp] theorem takeResponse_seq (s : State) : (takeResponse s).seq = s.seq := rfl
@[simp] theorem takeResponse_drspPtr (s : State) : (takeResponse s).drspPtr = s.drspPtr := rfl
@[simp] theorem takeResponse_drspLen (s : State) : (takeResponse s).drspLen = 0#8 := rfl
@[simp] theorem takeResponse_st (s : State) : (takeResponse s).st = s.st := rfl
@[simp] theorem takeResponse_fbtag (s : State) : (takeResponse s).fbtag = s.fbtag := rfl
@[simp] theorem takeResponse_lrcb (s : State) : (takeResponse s).lrcb = s.lrcb := rfl
@[simp] theorem takeResponse_tocb (s : State) : (takeResponse s).tocb = s.tocb := rfl
@[simp] theorem takeResponse_rxto (s : State) : (takeResponse s).rxto = s.rxto := rfl
@[simp] theorem takeResponse_rxtoAct (s : State) : (takeResponse s).rxtoAct = s.rxtoAct := rfl
@[simp] theorem takeResponse_lastRssi (s : State) : (takeResponse s).lastRssi = s.lastRssi := rfl
@[simp] theorem takeResponse_lastLqi (s : State) : (takeResponse s).lastLqi = s.lastLqi := rfl
@[simp] theorem takeResponse_lastCrc (s : State) : (takeResponse s).lastCrc = s.lastCrc := rfl
@[simp] theorem takeResponse_lastV (s : State) : (takeResponse s).lastV = s.lastV := rfl
@[simp] theorem takeResponse_radio (s : State) : (takeResponse s).radio = s.radio := rfl
@[simp] theorem takeResponse_afEn (s : State) : (takeResponse s).afEn = s.afEn := rfl
@[simp] theorem takeResponse_afByte (s : State) : (takeResponse s).afByte = s.afByte := rfl
@[simp] theorem takeResponse_hm (s : State) : (takeResponse s).hm = s.hm := rfl
@[simp] theorem takeResponse_nv (s : State) : (takeResponse s).nv = s.nv := rfl
@[simp] theorem takeResponse_pending (s : State) : (takeResponse s).pending = s.pending := rfl
@[simp] theorem takeResponse_phyAccept (s : State) : (takeResponse s).phyAccept = s.phyAccept := rfl
@[simp] theorem takeResponse_lrAccept (s : State) : (takeResponse s).lrAccept = s.lrAccept := rfl
@[simp] theorem takeResponse_out (s : State) : (takeResponse s).out = s.out := rfl
@[simp] theorem takeResponse_result (s : State) : (takeResponse s).result = s.result := rfl
@[simp] theorem takeResponse_cause (s : State) : (takeResponse s).cause = s.cause := rfl
@[simp] theorem takeResponse_freeCtr (s : State) : (takeResponse s).freeCtr = s.freeCtr + 1 := rfl

/-! ### latchStatus -/

@[simp] theorem latchStatus_cfg (r q : Byte) (s : State) : (latchStatus r q s).cfg = s.cfg := rfl
@[simp] theorem latchStatus_inited (r q : Byte) (s : State) : (latchStatus r q s).inited = s.inited := rfl
@[simp] theorem latchStatus_fixed (r q : Byte) (s : State) : (latchStatus r q s).fixed = s.fixed := rfl
@[simp] theorem latchStatus_panid (r q : Byte) (s : State) : (latchStatus r q s).panid = s.panid := rfl
@[simp] theorem latchStatus_localAddr (r q : Byte) (s : State) : (latchStatus r q s).localAddr = s.localAddr := rfl
@[simp] theorem latchStatus_remote (r q : Byte) (s : State) : (latchStatus r q s).remote = s.remote := rfl
@[simp] theorem latchStatus_hook (r q : Byte) (s : State) : (latchStatus r q s).hook = s.hook := rfl
@[simp] theorem latchStatus_busy (r q : Byte) (s : State) : (latchStatus r q s).busy = s.busy := rfl
@[simp] theorem latchStatus_fb (r q : Byte) (s : State) : (latchStatus r q s).fb = s.fb := rfl
@[simp] theorem latchStatus_len (r q : Byte) (s : State) : (latchStatus r q s).len = s.len := rfl
@[simp] theorem latchStatus_seq (r q : Byte) (s : State) : (latchStatus r q s).seq = s.seq := rfl
@[simp] theorem latchStatus_drspPtr (r q : Byte) (s : State) : (latchStatus r q s).drspPtr = s.drspPtr := rfl
@[simp] theorem latchStatus_drspLen (r q : Byte) (s : State) : (latchStatus r q s).drspLen = s.drspLen := rfl
@[simp] theorem latchStatus_st (r q : Byte) (s : State) : (latchStatus r q s).st = s.st := rfl
@[simp] theorem latchStatus_fbtag (r q : Byte) (s : State) : (latchStatus r q s).fbtag = s.fbtag := rfl
@[simp] theorem latchStatus_lrcb (r q : Byte) (s : State) : (latchStatus r q s).lrcb = s.lrcb := rfl
@[simp] theorem latchStatus_tocb (r q : Byte) (s : State) : (latchStatus r q s).tocb = s.tocb := rfl
@[simp] theorem latchStatus_rxto (r q : Byte) (s : State) : (latchStatus r q s).rxto = s.rxto := rfl
@[simp] theorem latchStatus_rxtoAct (r q : Byte) (s : State) : (latchStatus r q s).rxtoAct = s.rxtoAct := rfl
@[simp] theorem latchStatus_lastRssi (r q : Byte) (s : State) : (latchStatus r q s).lastRssi = r := rfl
@[simp] theorem latchStatus_lastLqi (r q : Byte) (s : State) : (latchStatus r q s).lastLqi = lqiOf q := rfl
@[simp] theorem latchStatus_lastCrc (r q : Byte) (s : State) : (latchStatus r q s).lastCrc = crcOkOf q := rfl
@[simp] theorem latchStatus_lastV (r q : Byte) (s : State) : (latchStatus r q s).lastV = true := rfl
@[simp] theorem latchStatus_radio (r q : Byte) (s : State) : (latchStatus r q s).radio = s.radio := rfl
@[simp] theorem latchStatus_afEn (r q : Byte) (s : State) : (latchStatus r q s).afEn = s.afEn := rfl
@[simp] theorem latchStatus_afByte (r q : Byte) (s : State) : (latchStatus r q s).afByte = s.afByte := rfl
@[simp] theorem latchStatus_hm (r q : Byte) (s : State) : (latchStatus r q s).hm = s.hm := rfl
@[simp] theorem latchStatus_nv (r q : Byte) (s : State) : (latchStatus r q s).nv = s.nv := rfl
@[simp] theorem latchStatus_pending (r q : Byte) (s : State) : (latchStatus r q s).pending = s.pending := rfl
@[simp] theorem latchStatus_phyAccept (r q : Byte) (s : State) : (latchStatus r q s).phyAccept = s.phyAccept := rfl
@[simp] theorem latchStatus_lrAccept (r q : Byte) (s : State) : (latchStatus r q s).lrAccept = s.lrAccept := rfl
@[simp] theorem latchStatus_out (r q : Byte) (s : State) : (latchStatus r q s).out = s.out := rfl
@[simp] theorem latchStatus_result (r q : Byte) (s : State) : (latchStatus r q s).result = s.result := rfl
@[simp] theorem latchStatus_cause (r q : Byte) (s : State) : (latchStatus r q s).cause = s.cause := rfl
@[simp] theorem latchStatus_freeCtr (r q : Byte) (s : State) : (latchStatus r q s).freeCtr = s.freeCtr := rfl

/-! ### deliver -/

@[simp] theorem deliver_cfg (r : Request) (rest : List Request) (s : State) : (deliver r rest s).cfg = s.cfg := rfl
@[simp] theorem deliver_inited (r : Request) (rest : List Request) (s : State) : (deliver r rest s).inited = s.inited := rfl
@[simp] theorem deliver_fixed (r : Request) (rest : List Request) (s : State) : (deliver r rest s).fixed = s.fixed := rfl
@[simp] theorem deliver_panid (r : Request) (rest : List Request) (s : State) : (deliver r rest s).panid = s.panid := rfl
@[simp] theorem deliver_localAddr (r : Request) (rest : List Request) (s : State) : (deliver r rest s).localAddr = s.localAddr := rfl
@[simp] theorem deliver_remote (r : Request) (rest : List Request) (s : State) : (deliver r rest s).remote = s.remote := rfl
@[simp] theorem deliver_hook (r : Request) (rest : List Request) (s : State) : (deliver r rest s).hook = s.hook := rfl
@[simp] theorem deliver_busy (r : Request) (rest : List Request) (s : State) : (deliver r rest s).busy = s.busy := rfl
@[simp] theorem deliver_fb (r : Request) (rest : List Request) (s : State) : (deliver r rest s).fb = s.fb := rfl
@[simp] theorem deliver_len (r : Request) (rest : List Request) (s : State) : (deliver r rest s).len = s.len := rfl
@[simp] theorem deliver_seq (r : Request) (rest : List Request) (s : State) : (deliver r rest s).seq = s.seq := rfl
@[simp] theorem deliver_drspPtr (r : Request) (rest : List Request) (s : State) : (deliver r rest s).drspPtr = s.drspPtr := rfl
@[simp] theorem deliver_drspLen (r : Request) (rest : List Request) (s : State) : (deliver r rest s).drspLen = s.drspLen := rfl
@[simp] theorem deliver_st (r : Request) (rest : List Request) (s : State) : (deliver r rest s).st = s.st := rfl
@[simp] theorem deliver_fbtag (r : Request) (rest : List Request) (s : State) : (deliver r rest s).fbtag = s.fbtag := rfl
@[simp] theorem deliver_lrcb (r : Request) (rest : List Request) (s : State) : (deliver r rest s).lrcb = s.lrcb := rfl
@[simp] theorem deliver_tocb (r : Request) (rest : List Request) (s : State) : (deliver r rest s).tocb = s.tocb := rfl
@[simp] theorem deliver_rxto (r : Request) (rest : List Request) (s : State) : (deliver r rest s).rxto = s.rxto := rfl
@[simp] theorem deliver_rxtoAct (r : Request) (rest : List Request) (s : State) : (deliver r rest s).rxtoAct = s.rxtoAct := rfl
@[simp] theorem deliver_lastRssi (r : Request) (rest : List Request) (s : State) : (deliver r rest s).lastRssi = s.lastRssi := rfl
@[simp] theorem deliver_lastLqi (r : Request) (rest : List Request) (s : State) : (deliver r rest s).lastLqi = s.lastLqi := rfl
@[simp] theorem deliver_lastCrc (r : Request) (rest : List Request) (s : State) : (deliver r rest s).lastCrc = s.lastCrc := rfl
@[simp] theorem deliver_lastV (r : Request) (rest : List Request) (s : State) : (deliver r rest s).lastV = s.lastV := rfl
@[simp] theorem deliver_radio (r : Request) (rest : List Request) (s : State) : (deliver r rest s).radio = s.radio := rfl
@[simp] theorem deliver_afEn (r : Request) (rest : List Request) (s : State) : (deliver r rest s).afEn = s.afEn := rfl
@[simp] theorem deliver_afByte (r : Request) (rest : List Request) (s : State) : (deliver r rest s).afByte = s.afByte := rfl
@[simp] theorem deliver_hm (r : Request) (rest : List Request) (s : State) : (deliver r rest s).hm = s.hm.writeCells r.hostWrites := rfl
@[simp] theorem deliver_nv (r : Request) (rest : List Request) (s : State) : (deliver r rest s).nv = s.nv := rfl
@[simp] theorem deliver_pending (r : Request) (rest : List Request) (s : State) : (deliver r rest s).pending = rest := rfl
@[simp] theorem deliver_phyAccept (r : Request) (rest : List Request) (s : State) : (deliver r rest s).phyAccept = r.phyAccept := rfl
@[simp] theorem deliver_lrAccept (r : Request) (rest : List Request) (s : State) : (deliver r rest s).lrAccept = r.lrAccept := rfl
@[simp] theorem deliver_out (r : Request) (rest : List Request) (s : State) : (deliver r rest s).out = [] := rfl
@[simp] theorem deliver_result (r : Request) (rest : List Request) (s : State) : (deliver r rest s).result = none := rfl
@[simp] theorem deliver_cause (r : Request) (rest : List Request) (s : State) : (deliver r rest s).cause = none := rfl
@[simp] theorem deliver_freeCtr (r : Request) (rest : List Request) (s : State) : (deliver r rest s).freeCtr = s.freeCtr := rfl

end Sys2Proof.Machine
end

