-- ==== Sys2Proof/Laws/Ops.lean ====
section
/-! SUPPORT. One lemma per shared operation that says once what it does; later proofs cite these. -/

namespace Sys2Proof.Machine

@[simp] theorem bindOutcome_next {σ τ φ ρ : Type} (a : σ) (k : σ → Host.Outcome τ φ ρ) :
    bindOutcome (.next a) k = k a := rfl
@[simp] theorem bindOutcome_fault {σ τ φ ρ : Type} (r : φ) (k : σ → Host.Outcome τ φ ρ) :
    bindOutcome (.fault r) k = .fault r := rfl
@[simp] theorem bindOutcome_refused {σ τ φ ρ : Type} (r : ρ) (k : σ → Host.Outcome τ φ ρ) :
    bindOutcome (.refused r) k = .refused r := rfl

/-- A bind that goes on went on from its first part. -/
theorem bindOutcome_eq_next {σ τ φ ρ : Type} {o : Host.Outcome σ φ ρ} {k : σ → Host.Outcome τ φ ρ} {t : τ} :
    bindOutcome o k = .next t ↔ ∃ a, o = .next a ∧ k a = .next t := by
  cases o <;> simp

/-- A bind faults where one of its parts does. -/
theorem bindOutcome_eq_fault {σ τ φ ρ : Type} {o : Host.Outcome σ φ ρ} {k : σ → Host.Outcome τ φ ρ} {r : φ} :
    bindOutcome o k = .fault r ↔ o = .fault r ∨ ∃ a, o = .next a ∧ k a = .fault r := by
  cases o <;> simp

/-! ## Admission -/

theorem inputRefusal_none_of_both {s : State} {code : Byte} (hi : s.inited = true) (hr : onlyRole code = none) :
    inputRefusal s code = none := by simp [inputRefusal, hi, hr]

theorem inputRefusal_none_of_role {s : State} {code : Byte} (hi : s.inited = true)
    (hr : onlyRole code = some s.cfg.role) : inputRefusal s code = none := by simp [inputRefusal, hi, hr]

theorem inputRefusal_wrongRole {s : State} {code : Byte} {r : Role} (hi : s.inited = true)
    (hr : onlyRole code = some r) (h : s.cfg.role ≠ r) : inputRefusal s code = some .uRole := by
  simp [inputRefusal, hi, hr, h]

theorem inputRefusal_preinit {s : State} {code : Byte} (hi : s.inited = false) (hb : beforeInit code = false) :
    inputRefusal s code = some .uPreinit := by simp [inputRefusal, hi, hb]

/-- What an admitted operation is: its own meaning. -/
theorem admitOp_of_none {s : State} {code : Byte} {i : Instr} {k : Res} (h : inputRefusal s code = none)
    (hw : i.wellFormed s.cfg = true) : admitOp code i s k = k := by simp [admitOp, h, hw]

theorem admitOp_of_some {s : State} {code : Byte} {i : Instr} {k : Res} {r : Refusal}
    (h : inputRefusal s code = some r) : admitOp code i s k = .refused r := by simp [admitOp, h]

/-- An operation that goes on was admitted, and its meaning goes on. -/
theorem admitOp_eq_next {s t : State} {code : Byte} {i : Instr} {k : Res} :
    admitOp code i s k = .next t ↔ inputRefusal s code = none ∧ i.wellFormed s.cfg = true ∧ k = .next t := by
  unfold admitOp
  cases h : inputRefusal s code <;> by_cases hw : i.wellFormed s.cfg = true <;> simp [hw]

theorem admitOp_eq_fault {s : State} {code : Byte} {i : Instr} {k : Res} {r : Fault} :
    admitOp code i s k = .fault r ↔ inputRefusal s code = none ∧ i.wellFormed s.cfg = true ∧ k = .fault r := by
  unfold admitOp
  cases h : inputRefusal s code <;> by_cases hw : i.wellFormed s.cfg = true <;> simp [hw]

theorem admitFrame_of {s : State} {i : Instr} {k : Res} (hi : s.inited = true)
    (hw : i.wellFormed s.cfg = true) : admitFrame i s k = k := by simp [admitFrame, hi, hw]

/-! ## The frame buffer -/

/-- A read of `FB` answers exactly the bytes that stand there, and only of a defined frame. -/
theorem readFb_eq_next {s : State} {off n : Nat} {bs : Bytes} :
    readFb s off n = .next bs ↔
      frameDefined s = true ∧ off + n ≤ s.cfg.maxFrame ∧ s.fb.readBytes off n = some bs := by
  unfold readFb
  by_cases hd : frameDefined s = true <;> by_cases hl : off + n ≤ s.cfg.maxFrame <;>
    cases hb : s.fb.readBytes off n <;> simp [hd, hl]

theorem readFb_eq_fault {s : State} {off n : Nat} {r : Fault} :
    readFb s off n = .fault r ↔ frameDefined s = true ∧ s.cfg.maxFrame < off + n := by
  unfold readFb
  by_cases hd : frameDefined s = true <;> by_cases hl : off + n ≤ s.cfg.maxFrame <;>
    cases hb : s.fb.readBytes off n <;> cases r <;> simp [hd, hl] <;> omega

/-- A write of `FB` that fits stores its bytes; one that does not, faults. -/
theorem writeFb_of_fits {s : State} {off : Nat} {bs : Bytes} (h : off + bs.length ≤ s.cfg.maxFrame) :
    writeFb off bs s = .next { s with fb := s.fb.writeBytes off bs } := by simp [writeFb, h]

theorem writeFb_eq_next {s t : State} {off : Nat} {bs : Bytes} :
    writeFb off bs s = .next t ↔
      off + bs.length ≤ s.cfg.maxFrame ∧ { s with fb := s.fb.writeBytes off bs } = t := by
  unfold writeFb; split <;> simp [*]

/-- What `writeBytes` stores is an overlay. -/
theorem overlaid_writeBytes (m : Memory) (off : Nat) (bs : Bytes) : Overlaid m off bs (m.writeBytes off bs) :=
  fun a => Memory.read_writeBytes bs m off a

/-- An overlay reads back. -/
theorem Overlaid.readBytes_self {m0 m : Memory} {off : Nat} {bs : Bytes} (h : Overlaid m0 off bs m) :
    m.readBytes off bs.length = some bs := by
  rw [Memory.readBytes_eq_some]
  refine ⟨rfl, fun i hi => ?_⟩
  rw [h]; simp [hi]

/-! ## Headers -/

theorem headerBytes_length {c : Config} {h : Header} (hf : h.Fits c) : (headerBytes h).length = c.hdrLen := by
  simp [headerBytes, hf.pan, hf.dst, hf.src, Config.hdrLen]; omega

/-- Parsing the bytes of a header gives the header back (41_frame_build R150, R151). -/
theorem parseHeader_headerBytes {c : Config} {h : Header} (hf : h.Fits c) (p : Bytes) :
    parseHeader c (headerBytes h ++ p) = h := by
  obtain ⟨pan, dst, src, ctl, seq⟩ := h
  obtain ⟨h1, h2, h3⟩ := hf
  simp only at h1 h2 h3
  have e1 : c.offDst = pan.length := by simp [Config.offDst, h1]
  have e2 : c.offSrc = (pan ++ dst).length := by simp [Config.offSrc, h1, h2]
  have e3 : c.offCtl = (pan ++ dst ++ src).length := by simp [Config.offCtl, h1, h2, h3]; omega
  have e4 : c.offSeq = (pan ++ dst ++ src).length + 1 := by simp [Config.offSeq, e3]
  simp only [parseHeader, headerBytes, Header.mk.injEq]
  refine ⟨?_, ?_, ?_, ?_, ?_⟩
  · simp [← h1]
  · rw [e1]; simp [← h2]
  · rw [e2]
    rw [show pan ++ dst ++ src ++ [ctl, seq] ++ p = (pan ++ dst) ++ (src ++ [ctl, seq] ++ p) by simp]
    rw [List.drop_left]; simp [← h3]
  · rw [e3]
    rw [show pan ++ dst ++ src ++ [ctl, seq] ++ p = (pan ++ dst ++ src) ++ (ctl :: seq :: p) by simp]
    rw [List.getD_eq_getElem?_getD, List.getElem?_append_right (Nat.le_refl _)]; simp
  · rw [e4]
    rw [show pan ++ dst ++ src ++ [ctl, seq] ++ p = (pan ++ dst ++ src) ++ (ctl :: seq :: p) by simp]
    rw [List.getD_eq_getElem?_getD, List.getElem?_append_right (by omega)]; simp

theorem Config.valid_iff (c : Config) : c.valid = true ↔
    1 ≤ c.panW ∧ 1 ≤ c.addrW ∧ c.hdrLen ≤ c.maxFrame ∧ c.maxFrame ≤ 255 ∧ c.linkreqCode ≠ 0#2 ∧
      (c.rxtoEn = true → c.role = .ep) ∧ 1 ≤ c.rxtoTicks ∧ c.rxtoTicks ≤ 65535 := by
  cases h : c.rxtoEn <;> simp [Config.valid, h, and_assoc]

section Held

variable {s : State} {h : Header} {p : Bytes}

theorem HoldsFrame.fitsHeader (H : HoldsFrame s h p) : h.Fits s.cfg := ⟨H.panW, H.dstW, H.srcW⟩

theorem HoldsFrame.defined (H : HoldsFrame s h p) : frameDefined s = true := by
  rcases H.tag with h | h <;> simp [frameDefined, h]

/-- Any part of a held frame reads as that part of its bytes. -/
theorem HoldsFrame.readFb_part (H : HoldsFrame s h p) {k l : Nat} (hkl : k + l ≤ s.cfg.hdrLen + p.length) :
    readFb s k l = .next (((headerBytes h ++ p).drop k).take l) := by
  rw [readFb_eq_next]
  refine ⟨H.defined, by have := H.fits; omega, ?_⟩
  simpa using Memory.readBytes_part H.bytes hkl

/-- The header of a held frame reads as the header. -/
theorem HoldsFrame.readHeader_eq (H : HoldsFrame s h p) : readHeader s = .next h := by
  have := parseHeader_headerBytes H.fitsHeader []
  have hl := headerBytes_length H.fitsHeader
  unfold readHeader
  rw [H.readFb_part (by omega)]
  simp [← hl] at this ⊢
  exact this

/-- The payload of a held frame reads as the payload. -/
theorem HoldsFrame.readPayload_eq (H : HoldsFrame s h p) : readPayload s = .next p := by
  have hl := headerBytes_length H.fitsHeader
  unfold readPayload
  rw [H.len, H.readFb_part (by omega), ← hl]
  simp

theorem HoldsFrame.readFb_src (H : HoldsFrame s h p) : readFb s s.cfg.offSrc s.cfg.addrW = .next h.src := by
  rw [H.readFb_part (by simp [Config.offSrc, Config.hdrLen]; omega)]
  congr 1
  exact congrArg Header.src (parseHeader_headerBytes H.fitsHeader p)

theorem HoldsFrame.readFbByte_ctl (H : HoldsFrame s h p) : readFbByte s s.cfg.offCtl = .next h.ctl := by
  have hl := headerBytes_length H.fitsHeader
  unfold readFbByte
  rw [H.readFb_part (by simp [Config.offCtl, Config.hdrLen]; omega)]
  have := congrArg Header.ctl (parseHeader_headerBytes H.fitsHeader p)
  simp only [parseHeader] at this
  have e : ∀ (l : Bytes) (k : Nat), ((l.drop k).take 1).headD 0#8 = l.getD k 0#8 := by
    intro l k
    rw [List.getD_eq_getElem?_getD, ← List.head?_drop]
    cases l.drop k <;> simp
  simp only [bindOutcome_next, e, this]

theorem HoldsFrame.readFbByte_seq (H : HoldsFrame s h p) : readFbByte s s.cfg.offSeq = .next h.seq := by
  have hl := headerBytes_length H.fitsHeader
  unfold readFbByte
  rw [H.readFb_part (by simp [Config.offSeq, Config.offCtl, Config.hdrLen])]
  have := congrArg Header.seq (parseHeader_headerBytes H.fitsHeader p)
  simp only [parseHeader] at this
  have e : ∀ (l : Bytes) (k : Nat), ((l.drop k).take 1).headD 0#8 = l.getD k 0#8 := by
    intro l k
    rw [List.getD_eq_getElem?_getD, ← List.head?_drop]
    cases l.drop k <;> simp
  simp only [bindOutcome_next, e, this]

end Held

/-! ## Control bytes -/

@[simp] theorem ctlType_ctlOf (ty : BitVec 2) (rsv : BitVec 4) (drq mode : Bool) :
    ctlType (ctlOf ty rsv drq mode) = ty := by revert ty rsv drq mode; decide

@[simp] theorem ctlRsv_ctlOf (ty : BitVec 2) (rsv : BitVec 4) (drq mode : Bool) :
    ctlRsv (ctlOf ty rsv drq mode) = rsv := by revert ty rsv drq mode; decide

@[simp] theorem ctlDrq_ctlOf (ty : BitVec 2) (rsv : BitVec 4) (drq mode : Bool) :
    ctlDrq (ctlOf ty rsv drq mode) = drq := by revert ty rsv drq mode; decide

@[simp] theorem ctlMode_ctlOf (ty : BitVec 2) (rsv : BitVec 4) (drq mode : Bool) :
    ctlMode (ctlOf ty rsv drq mode) = mode := by revert ty rsv drq mode; decide

/-- A control byte is made of its four fields. -/
theorem ctlOf_fields (b : Byte) : ctlOf (ctlType b) (ctlRsv b) (ctlDrq b) (ctlMode b) = b := by
  revert b; decide

/-- The builder's control byte is the rule's arithmetic. -/
theorem buildCtl_eq (c : Config) (ty : FrameType) (drq : Bool) : buildCtl c ty drq = stampedCtl c ty drq := by
  unfold buildCtl stampedCtl typeCode modeBit
  generalize c.linkreqCode = l
  cases c.role <;> cases ty <;> cases drq <;> revert l <;> decide

/-! ## The operations, in closed form -/

theorem armRx_eq (s : State) : armRx s = armed s := by
  unfold armRx armed; cases h : s.cfg.hasRxto <;> simp [h, emit]

theorem idlePolicy_eq (s : State) : idlePolicy s = idled s := by
  unfold idlePolicy idled
  cases h : s.cfg.role <;> simp [armRx_eq, armed, phyLowPower, emit]

theorem recordBytes_eq (s : State) : recordBytes s = record s := by
  unfold recordBytes record; cases s.fixed <;> simp

theorem persist_eq (s : State) : persist s = persisted s := by
  unfold persist persisted backupWrite; cases h : s.hook <;> simp [h, emit, recordBytes_eq]

/-- The byte the filter is keyed on is the last one of the PAN id (40_addressing_registry R126). -/
theorem lowByte_eq {c : Config} {p : Bytes} (h : p.length = c.panW) : lowByte c p = p.getLastD 0#8 := by
  unfold lowByte
  rw [← h]
  cases p using List.reverseRecOn <;> simp [List.getLastD_eq_getLast?]

theorem linkEstablish_eq {s : State} {p r : Bytes} (h : p.length = s.cfg.panW) :
    linkEstablish p r s = linked p r s := by
  unfold linkEstablish linked
  cases hf : s.fixed <;> simp [persist_eq, afEnable, emit, lowByte_eq h, hf]

theorem linkDestroy_eq (s : State) : linkDestroy s = unlinked s := by
  unfold linkDestroy unlinked
  cases hf : s.fixed <;> simp [persist_eq, afDisable, emit, Config.bcastOf, hf]

/-- The link test is the rule's. -/
theorem linkExists_iff (s : State) : linkExists s = true ↔ LinkUp s := by
  simp [linkExists, isBcast, LinkUp]

theorem phyAnswer_eq (b : Bytes) (s : State) :
    phyAnswer (emit (.phyTx b) s) = (s.phyAccept, answered s b) := by
  unfold phyAnswer answered; cases h : s.phyAccept <;> simp [h, emit, failWith]

theorem buildHeader_fits {s : State} {ty : FrameType} {drq : Bool} {d : Bytes} (hp : s.panid.length = s.cfg.panW)
    (hl : s.localAddr.length = s.cfg.addrW) (hd : d.length = s.cfg.addrW) :
    (buildHeader ty drq d s).Fits s.cfg := ⟨hp, hd, hl⟩

theorem builtFrame_eq (s : State) (d : Bytes) (ty : FrameType) (drq : Bool) (p : Bytes) :
    builtFrame s d ty drq p = headerBytes (buildHeader ty drq d s) ++ p := by
  simp [builtFrame, headerBytes, buildHeader, buildCtl_eq]

theorem builtFrame_length {s : State} {d : Bytes} {ty : FrameType} {drq : Bool} {p : Bytes}
    (hp : s.panid.length = s.cfg.panW) (hl : s.localAddr.length = s.cfg.addrW) (hd : d.length = s.cfg.addrW) :
    (builtFrame s d ty drq p).length = s.cfg.hdrLen + p.length := by
  simp [builtFrame, hp, hl, hd, Config.hdrLen]; omega

/-- `FrameBuild` with a destination that can be read and a frame that fits: the frame of R149 stands in `FB` from
byte 0 on, and `LEN`, `SEQ`, `FBTAG` are written. -/
theorem buildFrame_eq {s : State} {d : Bytes} {ty : FrameType} {drq : Bool} {p : Bytes}
    (hdst : buildDest s = .next d) (hp : s.panid.length = s.cfg.panW) (hl : s.localAddr.length = s.cfg.addrW)
    (hd : d.length = s.cfg.addrW) (hfit : p.length + s.cfg.hdrLen ≤ s.cfg.maxFrame) :
    buildFrame ty drq p s = .next (built s p (s.fb.writeBytes 0 (builtFrame s d ty drq p))) := by
  have hlen := builtFrame_length (ty := ty) (drq := drq) (p := p) hp hl hd
  unfold buildFrame
  rw [hdst, bindOutcome_next, ← builtFrame_eq, writeFb_of_fits (by omega)]
  rfl

/-- `Send` of a frame that fits, on an idle instance: the frame is built, handed over, and answered. -/
theorem sendFrame_eq {s : State} {d : Bytes} {ty : FrameType} {drq : Bool} {p : Bytes}
    (hb : s.busy = false) (hm : s.cfg.maxFrame ≤ 255)
    (hdst : buildDest s = .next d) (hp : s.panid.length = s.cfg.panW) (hl : s.localAddr.length = s.cfg.addrW)
    (hd : d.length = s.cfg.addrW) (hfit : p.length + s.cfg.hdrLen ≤ s.cfg.maxFrame) :
    sendFrame ty drq p s = .next (s.phyAccept,
      answered (built s p (s.fb.writeBytes 0 (builtFrame s d ty drq p))) (builtFrame s d ty drq p)) := by
  have hlen := builtFrame_length (ty := ty) (drq := drq) (p := p) hp hl hd
  have hr : readFb (built s p (s.fb.writeBytes 0 (builtFrame s d ty drq p))) 0
      (s.cfg.hdrLen + (BitVec.ofNat 8 p.length).toNat) = .next (builtFrame s d ty drq p) := by
    rw [readFb_eq_next]
    have : (BitVec.ofNat 8 p.length).toNat = p.length := by
      simp [BitVec.toNat_ofNat]; omega
    rw [this, ← hlen]
    refine ⟨rfl, ?_, Memory.readBytes_writeBytes_self _ _ _⟩
    show 0 + _ ≤ s.cfg.maxFrame
    omega
  unfold sendFrame
  rw [if_neg (by simp [hb]), if_neg (by omega), buildFrame_eq hdst hp hl hd hfit, bindOutcome_next]
  have hr' : readFb (built s p (s.fb.writeBytes 0 (builtFrame s d ty drq p))) 0
      ((built s p (s.fb.writeBytes 0 (builtFrame s d ty drq p))).cfg.hdrLen +
        (built s p (s.fb.writeBytes 0 (builtFrame s d ty drq p))).len.toNat) =
      .next (builtFrame s d ty drq p) := hr
  rw [hr', bindOutcome_next, phyAnswer_eq]
  rfl

theorem sendFrame_busy {s : State} {ty : FrameType} {drq : Bool} {p : Bytes} (hb : s.busy = true) :
    sendFrame ty drq p s = .next (false, failWith .contention s) := by simp [sendFrame, hb]

theorem sendFrame_tooLong {s : State} {ty : FrameType} {drq : Bool} {p : Bytes} (hb : s.busy = false)
    (h : s.cfg.maxFrame < p.length + s.cfg.hdrLen) :
    sendFrame ty drq p s = .next (false, failWith .capacity s) := by simp [sendFrame, hb, h]

/-! ## Reception -/

/-- An envelope is taken apart into what it was made of. -/
theorem parseEnvelope_envelopeOf {h : Header} {p : Bytes} {rssi lq : Byte}
    (hn : (headerBytes h ++ p).length ≤ 255) :
    parseEnvelope (envelopeOf h p rssi lq) =
      some { n := (headerBytes h ++ p).length, frame := headerBytes h ++ p, rssi := rssi, lq := lq } := by
  have e : (BitVec.ofNat 8 (headerBytes h ++ p).length).toNat = (headerBytes h ++ p).length := by
    rw [BitVec.toNat_ofNat]; omega
  generalize hF : headerBytes h ++ p = F at e hn ⊢
  simp only [envelopeOf, hF, List.cons_append, List.nil_append, parseEnvelope, e]
  rw [show F ++ [rssi] ++ [lq] = F ++ [rssi, lq] by simp, List.drop_left, List.take_left]

/-- `|env| = env[0] + 3` is exactly when an envelope can be taken apart (43_scheduler_fsm R189). -/
theorem parseEnvelope_isSome (env : Bytes) :
    (parseEnvelope env).isSome = true ↔ ∃ n rest, env = n :: rest ∧ env.length = n.toNat + 3 := by
  cases env with
  | nil => simp [parseEnvelope]
  | cons n rest =>
    have hd : (rest.drop n.toNat).length = rest.length - n.toNat := by simp
    simp only [parseEnvelope, List.cons.injEq, List.length_cons]
    generalize hr : rest.drop n.toNat = r at hd
    constructor
    · intro h
      refine ⟨n, rest, ⟨rfl, rfl⟩, ?_⟩
      match r, h with
      | [_, _], _ => simp at hd; omega
    · rintro ⟨n', rest', ⟨rfl, rfl⟩, hl⟩
      match r, hd with
      | [_, _], _ => rfl
      | [], hd => simp at hd; omega
      | [_], hd => simp at hd; omega
      | _ :: _ :: _ :: _, hd => simp at hd; omega

theorem crcOkOf_eq (lq : Byte) : crcOkOf lq = decide (128 ≤ lq.toNat) := by revert lq; decide

theorem lqiOf_eq (lq : Byte) : lqiOf lq = BitVec.ofNat 7 lq.toNat := by revert lq; decide

/-- The state an `EDGE_RX` has reached before its first check. -/
theorem receive_eq (e : Envelope) (s : State) :
    receive e s = received s e.n e.rssi e.lq
      (if e.n ≤ s.cfg.maxFrame then s.fb.writeBytes 0 e.frame else s.fb) := by
  unfold receive fillBuffer received stopTimeout completionEntry
  simp only [crcOkOf_eq, lqiOf_eq, latchStatus, apply_ite State.cfg]
  by_cases h1 : s.cfg.hasRxto = true <;> by_cases h2 : e.n ≤ s.cfg.maxFrame <;>
    by_cases h3 : s.cfg.hdrLen ≤ e.n <;> simp [h1, h2, h3]

end Sys2Proof.Machine
end

