-- ==== Sys2Proof/Laws/Frames.lean ====
section
/-! SUPPORT. What a frame held in `FB` goes through: its stored control byte, the filters, dispatch, and how a
reception comes to hold it. -/

namespace Sys2Proof.Machine

/-- Holding a frame is a matter of the buffer, its tag, its length and the configuration. -/
theorem HoldsFrame.congr {s t : State} {h : Header} {p : Bytes} (H : HoldsFrame s h p) (hc : t.cfg = s.cfg)
    (hf : t.fb = s.fb) (ht : t.fbtag = s.fbtag) (hl : t.len = s.len) : HoldsFrame t h p := by
  obtain ⟨h1, h2, h3, h4, h5, h6, h7⟩ := H
  constructor <;> simp only [hc, hf, ht, hl] <;> assumption

/-- The offsets of R62. -/
theorem offsets_eq (c : Config) : c.offCtl = c.panW + 2 * c.addrW ∧ c.offSeq = c.panW + 2 * c.addrW + 1 ∧
    c.hdrLen = c.panW + 2 * c.addrW + 2 ∧ c.offSrc = c.panW + c.addrW ∧ c.offDst = c.panW := ⟨rfl, rfl, rfl, rfl, rfl⟩

/-- The control byte of a held frame can be stored. -/
theorem HoldsFrame.ctlFits {s : State} {h : Header} {p : Bytes} (H : HoldsFrame s h p) :
    s.cfg.offCtl + 1 ≤ s.cfg.maxFrame := by
  have := H.fits; have := offsets_eq s.cfg; omega

/-- Storing a control byte into a held frame changes that field of it and nothing else. -/
theorem HoldsFrame.setCtl {s : State} {h : Header} {p : Bytes} (H : HoldsFrame s h p) (c : Byte) :
    HoldsFrame { s with fb := s.fb.writeBytes s.cfg.offCtl [c] } { h with ctl := c } p := by
  refine ⟨H.tag, H.panW, H.dstW, H.srcW, H.len, H.fits, ?_⟩
  have hoff := offsets_eq s.cfg
  have hb := H.bytes
  have hl := headerBytes_length H.fitsHeader
  have h1 := H.panW; have h2 := H.dstW; have h3 := H.srcW
  rw [Memory.readBytes_eq_some] at hb ⊢
  refine ⟨by have := headerBytes_length (c := s.cfg) (h := { h with ctl := c }) ⟨h1, h2, h3⟩; simp [this], fun i hi => ?_⟩
  show (s.fb.writeBytes s.cfg.offCtl [c]).read (0 + i) = _
  rw [Memory.read_writeBytes]
  have e : ∀ x : Byte, headerBytes { h with ctl := x } ++ p = (h.pan ++ h.dst ++ h.src) ++ (x :: h.seq :: p) := by
    intro x; simp [headerBytes]
  have hpre : (h.pan ++ h.dst ++ h.src).length = s.cfg.offCtl := by simp; omega
  have hi' : i < s.cfg.hdrLen + p.length := hi
  have hold := hb.2 i hi'
  rw [show h = { h with ctl := h.ctl } from rfl, e] at hold
  rw [e]
  clear e
  generalize h.pan ++ h.dst ++ h.src = pre at hpre hold ⊢
  by_cases hk : i = s.cfg.offCtl
  · rw [if_pos (by simp only [List.length_cons, List.length_nil]; omega),
      List.getElem?_append_right (by omega), hpre, hk]
    simp
  · rw [if_neg (by simp; omega)]
    rw [hold]
    by_cases hlt : i < s.cfg.offCtl
    · rw [List.getElem?_append_left (by omega), List.getElem?_append_left (by omega)]
    · rw [List.getElem?_append_right (by omega), List.getElem?_append_right (by omega)]
      obtain ⟨k, hk'⟩ : ∃ k, i - pre.length = k + 1 := ⟨i - s.cfg.offCtl - 1, by omega⟩
      rw [hk']; rfl

/-- Clearing the data-request bit is the mask `0xFD`. -/
theorem clearDrq_eq (b : Byte) : clearDrq b = b &&& 0xFD#8 := by revert b; decide

/-- `DispatchData` on an End Point. -/
theorem dispatchDataOp_ep {s : State} {h : Header} {p : Bytes} (H : HoldsFrame s h p) (hr : s.cfg.role = .ep) :
    dispatchDataOp s = .next (idled { s with
      fb := s.fb.writeBytes s.cfg.offCtl [h.ctl &&& 0xFD#8], out := s.out ++ [.cbFrameCompleteEp p s.len] }) := by
  unfold dispatchDataOp
  rw [H.readFbByte_ctl, bindOutcome_next, writeFb_of_fits (by simpa using H.ctlFits), bindOutcome_next,
    (H.setCtl _).readPayload_eq, bindOutcome_next, clearDrq_eq]
  simp only [hr, idlePolicy_eq, emit]

/-- `DispatchData` on a Gateway that does not answer. -/
theorem dispatchDataOp_gw {s : State} {h : Header} {p : Bytes} (H : HoldsFrame s h p) (hr : s.cfg.role = .gw)
    (hn : h.ctl.getLsbD 1 = false ∨ s.drspLen = 0#8) :
    dispatchDataOp s = .next (idled { s with out := s.out ++ [.cbFrameCompleteGw (h.ctl.getLsbD 1) p s.len] }) := by
  unfold dispatchDataOp
  rw [H.readFbByte_ctl, bindOutcome_next, writeFb_of_fits (by simpa using H.ctlFits), bindOutcome_next,
    (H.setCtl _).readPayload_eq, bindOutcome_next]
  simp only [hr, idlePolicy_eq, emit, ctlDrq]
  rw [if_neg (by rintro ⟨h1, h2⟩; rcases hn with hn | hn <;> simp_all)]
  simp [idled, hr, armed]

/-- What the turnaround reads of host memory is the staged reply. -/
theorem stagedReply_memRead (s : State) : StagedReply s (memRead s s.drspPtr s.drspLen.toNat) := by
  refine ⟨by simp [memRead], fun k b hk hb => ?_⟩
  have hk' : k < s.drspLen.toNat := by simpa [memRead] using hk
  simp [memRead, hk', hb]

/-- Host memory that holds all of a staged reply fixes it. -/
theorem StagedReply.eq_of_told {s : State} {q r : Bytes} (H : StagedReply s r) (hq : q.length = s.drspLen.toNat)
    (h : ∀ k, k < q.length → s.hm.read (s.drspPtr + k) = q[k]?) : r = q := by
  apply List.ext_getElem (H.len.trans hq.symm)
  intro k h1 h2
  have := H.told k q[k] h1 (by rw [h k h2, List.getElem?_eq_getElem h2])
  simpa [List.getElem?_eq_getElem h1] using this

/-- A send from dispatch that fits: it goes to the source of the frame in `FB`, or the idle policy follows. -/
theorem sendOrIdle_eq {s : State} {h : Header} {r : Bytes} {ty : FrameType} {q : Bytes} (H : HoldsFrame s h r)
    (hr : s.cfg.role = .gw) (hv : s.cfg.valid = true) (F : FieldsSized s) (hb : s.busy = false)
    (hfit : q.length + s.cfg.hdrLen ≤ s.cfg.maxFrame) :
    sendOrIdle ty q s = .next
      (if s.phyAccept then
        answered (built s q (s.fb.writeBytes 0 (builtFrame s h.src ty false q))) (builtFrame s h.src ty false q)
      else idled
        (answered (built s q (s.fb.writeBytes 0 (builtFrame s h.src ty false q))) (builtFrame s h.src ty false q))) := by
  have := sendFrame_eq (ty := ty) (drq := false) (p := q) (d := h.src) hb ((Config.valid_iff _).mp hv).2.2.2.1
    (by simp [buildDest, hr, H.readFb_src]) F.pan F.loc H.srcW hfit
  unfold sendOrIdle
  rw [this, bindOutcome_next, idlePolicy_eq]

/-- `DispatchData` on a Gateway that is asked and has a reply staged, up to the turnaround's send. -/
theorem dispatchDataOp_asked {s : State} {h : Header} {p : Bytes} (H : HoldsFrame s h p)
    (hr : s.cfg.role = .gw) (hd : h.ctl.getLsbD 1 = true) (h0 : s.drspLen ≠ 0#8) :
    dispatchDataOp s = sendOrIdle .data (memRead s s.drspPtr s.drspLen.toNat) { s with
      fb := s.fb.writeBytes s.cfg.offCtl [h.ctl &&& 0xFD#8], radio := .active, drspLen := 0#8,
      freeCtr := s.freeCtr + 1, out := s.out ++ [.cbFrameCompleteGw true p s.len, .phyActive] } := by
  unfold dispatchDataOp
  rw [H.readFbByte_ctl, bindOutcome_next, clearDrq_eq, writeFb_of_fits (by simpa using H.ctlFits), bindOutcome_next,
    (H.setCtl (h.ctl &&& 0xFD#8)).readPayload_eq, bindOutcome_next]
  simp only [hr, ctlDrq, hd]
  rw [if_pos (by exact ⟨trivial, h0⟩)]
  simp only [turnaround, takeResponse, phyActive, emit, memRead, List.append_assoc, List.cons_append, List.nil_append]

/-- `DispatchData` on a Gateway that answers: the turnaround. -/
theorem dispatchDataOp_turnaround {s : State} {h : Header} {p : Bytes} (H : HoldsFrame s h p)
    (hr : s.cfg.role = .gw) (hv : s.cfg.valid = true) (F : FieldsSized s) (hb : s.busy = false)
    (hd : h.ctl.getLsbD 1 = true) (h0 : s.drspLen ≠ 0#8)
    (hfit : s.drspLen.toNat + s.cfg.hdrLen ≤ s.cfg.maxFrame) :
    ∃ q m1 m t, StagedReply s q ∧ Overlaid s.fb (s.cfg.panW + 2 * s.cfg.addrW) [h.ctl &&& 0xFD#8] m1 ∧
      Overlaid m1 0 (builtFrame s h.src .data false q) m ∧
      t = answered (built { s with
          radio := .active, drspLen := 0#8, freeCtr := s.freeCtr + 1,
          out := s.out ++ [.cbFrameCompleteGw true p s.len, .phyActive] } q m)
        (builtFrame s h.src .data false q) ∧
      dispatchDataOp s = .next (if s.phyAccept then t else idled t) := by
  have hS := stagedReply_memRead s
  refine ⟨_, _, _, _, hS, overlaid_writeBytes _ _ _, overlaid_writeBytes _ _ _, rfl, ?_⟩
  have H2 : HoldsFrame { s with
      fb := s.fb.writeBytes s.cfg.offCtl [h.ctl &&& 0xFD#8], radio := .active, drspLen := 0#8,
      freeCtr := s.freeCtr + 1, out := s.out ++ [.cbFrameCompleteGw true p s.len, .phyActive] }
      { h with ctl := h.ctl &&& 0xFD#8 } p := (H.setCtl (h.ctl &&& 0xFD#8)).congr rfl rfl rfl rfl
  rw [dispatchDataOp_asked H hr hd h0,
    sendOrIdle_eq H2 hr hv ⟨F.pan, F.loc, F.rem⟩ hb (by rw [hS.len]; exact hfit)]
  rfl

/-- `DispatchData` on a Gateway whose staged reply is too long: it is cleared and the idle policy runs. -/
theorem dispatchDataOp_tooLong {s : State} {h : Header} {p : Bytes} (H : HoldsFrame s h p)
    (hr : s.cfg.role = .gw) (hb : s.busy = false) (hd : h.ctl.getLsbD 1 = true) (h0 : s.drspLen ≠ 0#8)
    (hlong : s.cfg.maxFrame < s.drspLen.toNat + s.cfg.hdrLen) :
    dispatchDataOp s = .next (idled { s with
      drspLen := 0#8, freeCtr := s.freeCtr + 1, cause := some .capacity,
      out := s.out ++ [.cbFrameCompleteGw true p s.len, .phyActive] }) := by
  have hl := (stagedReply_memRead s).len
  rw [dispatchDataOp_asked H hr hd h0, sendOrIdle, sendFrame_tooLong]
  · simp [idlePolicy_eq, failWith, idled, hr, armed]
  · exact hb
  · rw [hl]; exact hlong

/-- `DispatchLinkRequest` on an End Point. -/
theorem dispatchLinkOp_ep {s : State} {h : Header} {p : Bytes} (H : HoldsFrame s h p) (hr : s.cfg.role = .ep) :
    dispatchLinkOp s = .next (idled (linked h.pan h.src s)) := by
  unfold dispatchLinkOp
  rw [H.readHeader_eq, bindOutcome_next]
  simp only [hr, linkEstablish_eq H.panW, idlePolicy_eq]

/-- `DispatchLinkRequest` on a Gateway whose application denies. -/
theorem dispatchLinkOp_denied {s : State} {h : Header} {p : Bytes} (H : HoldsFrame s h p) (hr : s.cfg.role = .gw)
    (hl : s.lrcb = true) (ha : s.lrAccept = false) :
    dispatchLinkOp s = .next (idled { s with out := s.out ++ [.cbLinkRequest h.pan h.src p s.len] }) := by
  unfold dispatchLinkOp
  rw [H.readHeader_eq, bindOutcome_next]
  simp only [hr, H.readPayload_eq, bindOutcome_next, hl, ha, answerLink, idlePolicy_eq, emit, if_true,
    Bool.false_eq_true, if_false]

/-- `DispatchLinkRequest` on a Gateway that accepts. -/
theorem dispatchLinkOp_accepted {s : State} {h : Header} {p : Bytes} (H : HoldsFrame s h p) (hr : s.cfg.role = .gw)
    (hv : s.cfg.valid = true) (F : FieldsSized s) (hb : s.busy = false)
    (hl : s.lrcb = false ∨ s.lrAccept = true) :
    ∃ m t, Overlaid s.fb 0 (builtFrame s h.src .linkReq false []) m ∧
      t = answered (built { s with
          radio := .active,
          out := s.out ++ (if s.lrcb then [.cbLinkRequest h.pan h.src p s.len] else []) ++ [.phyActive] } [] m)
        (builtFrame s h.src .linkReq false []) ∧
      dispatchLinkOp s = .next (if s.phyAccept then t else idled t) := by
  refine ⟨_, _, overlaid_writeBytes _ _ _, rfl, ?_⟩
  have hfit : ([] : Bytes).length + s.cfg.hdrLen ≤ s.cfg.maxFrame := by have := H.fits; simp; omega
  unfold dispatchLinkOp
  rw [H.readHeader_eq, bindOutcome_next]
  simp only [hr, H.readPayload_eq, bindOutcome_next]
  by_cases hc : s.lrcb = true
  rotate_left
  · simp only [if_neg hc, answerLink, if_true, List.append_nil]
    have H2 : HoldsFrame (phyActive s) h p := H.congr rfl rfl rfl rfl
    rw [sendOrIdle_eq H2 hr hv ⟨F.pan, F.loc, F.rem⟩ hb hfit]
    rfl
  · have ha : s.lrAccept = true := by simpa [hc] using hl
    simp only [if_pos hc, answerLink, List.append_assoc]
    rw [if_pos ha]
    have H2 : HoldsFrame (phyActive (emit (.cbLinkRequest h.pan h.src p s.len) s)) h p := H.congr rfl rfl rfl rfl
    rw [sendOrIdle_eq H2 hr hv ⟨F.pan, F.loc, F.rem⟩ hb hfit]
    simp only [phyActive, emit, List.append_assoc]
    rfl

/-- What follows the length and CRC checks, for a held frame. -/
theorem processFrame_eq {s : State} {h : Header} {p : Bytes} (H : HoldsFrame s h p) :
    processFrame s =
      match validateOp s h with
      | some c => .next (idled { s with cause := some (.reject c) })
      | none =>
        match classifyCtl s.cfg h.ctl with
        | .reserved => .next (idled { s with cause := some (.reject .rType) })
        | .data => dispatchDataOp s
        | .linkReq => dispatchLinkOp s := by
  unfold processFrame
  rw [H.readHeader_eq, bindOutcome_next]
  cases validateOp s h <;> cases classifyCtl s.cfg h.ctl <;> simp [rejectFrame, idlePolicy_eq, failWith]

/-- A frame class as an operation: the control byte is stored, and the frame goes on with it. -/
theorem frameArrived_eq {s : State} {h : Header} {p : Bytes} (H : HoldsFrame s h p) (c : Byte) :
    frameArrived c s = processFrame { s with fb := s.fb.writeBytes s.cfg.offCtl [c] } := by
  unfold frameArrived
  rw [writeFb_of_fits (by simpa using H.ctlFits), bindOutcome_next]

/-- A received frame of a length inside the bounds is held. -/
theorem holdsFrame_received {s : State} {h : Header} {p : Bytes} {rssi lq : Byte} (hv : s.cfg.valid = true)
    (hf : h.Fits s.cfg) (hfit : s.cfg.hdrLen + p.length ≤ s.cfg.maxFrame) :
    HoldsFrame (received s (s.cfg.hdrLen + p.length) rssi lq (s.fb.writeBytes 0 (headerBytes h ++ p))) h p := by
  have hm := ((Config.valid_iff _).mp hv).2.2.2.1
  have hl := headerBytes_length hf
  refine ⟨.inr ?_, hf.pan, hf.dst, hf.src, ?_, hfit, ?_⟩
  · simp [received, hfit]
  · simp [received, hfit]; omega
  · show (s.fb.writeBytes 0 (headerBytes h ++ p)).readBytes 0 (s.cfg.hdrLen + p.length) = _
    have := Memory.readBytes_writeBytes_self s.fb 0 (headerBytes h ++ p)
    rwa [List.length_append, hl] at this

/-- `EDGE_RX` of an envelope that carries a frame of a length inside the bounds: the frame is held, and the CRC check
comes next. -/
theorem receiveDone_envelopeOf {s : State} {h : Header} {p : Bytes} {rssi lq : Byte} (hst : s.st = .listening)
    (hv : s.cfg.valid = true) (hf : h.Fits s.cfg) (hfit : s.cfg.hdrLen + p.length ≤ s.cfg.maxFrame) :
    receiveDone (envelopeOf h p rssi lq) s =
      (if 128 ≤ lq.toNat then
        processFrame (received s (s.cfg.hdrLen + p.length) rssi lq (s.fb.writeBytes 0 (headerBytes h ++ p)))
      else .next (idled { received s (s.cfg.hdrLen + p.length) rssi lq (s.fb.writeBytes 0 (headerBytes h ++ p)) with
        cause := some (.reject .rCrc) })) := by
  have hm := ((Config.valid_iff _).mp hv).2.2.2.1
  have hl := headerBytes_length hf
  have hn : (headerBytes h ++ p).length = s.cfg.hdrLen + p.length := by simp [hl]
  unfold receiveDone
  rw [if_neg (by simp [hst]), parseEnvelope_envelopeOf (by omega)]
  simp only [receive_eq, checkFrame, hn, if_pos hfit, crcOkOf_eq]
  unfold rxCheckOp
  rw [if_neg (by show ¬ (_ < s.cfg.hdrLen); omega), if_neg (by show ¬ (s.cfg.maxFrame < _); omega)]
  by_cases hc : 128 ≤ lq.toNat <;> simp [hc, rejectFrame, failWith, idlePolicy_eq]

end Sys2Proof.Machine
end

