-- ==== Sys2Proof/Laws/PerInstr.lean ====
section
/-! SUPPORT. One lemma per operation: where its code lies in the table of 30_encoding R104. -/

namespace Sys2Proof.Laws

/-- The command words of an operation, whatever the configuration and the operands, begin with one code byte, and
that byte is below `0xC0` exactly where the operation is an input (30_encoding R104, R107). A frame class has no
command word (R106). -/
def CodeRange.Statement (i : Instr) : Prop :=
  i.isFrameClass = false → ∃ b : Byte, (i.isInput = true ↔ b < 0xC0#8) ∧ ∀ c, (encode c i).head? = some b

theorem CodeRange.init (pan addr : Bytes) (hook lrcb tocb : Bool) :
    CodeRange.Statement (.init pan addr hook lrcb tocb) :=
  fun _ => ⟨0x00#8, iff_of_true rfl (by decide), fun _ => rfl⟩

theorem CodeRange.isbcast (a : Bytes) : CodeRange.Statement (.isbcast a) :=
  fun _ => ⟨0x01#8, iff_of_true rfl (by decide), fun _ => rfl⟩

theorem CodeRange.linkexists : CodeRange.Statement .linkexists :=
  fun _ => ⟨0x02#8, iff_of_true rfl (by decide), fun _ => rfl⟩

theorem CodeRange.linkestablish (p r : Bytes) : CodeRange.Statement (.linkestablish p r) :=
  fun _ => ⟨0x03#8, iff_of_true rfl (by decide), fun _ => rfl⟩

theorem CodeRange.linkdestroy : CodeRange.Statement .linkdestroy :=
  fun _ => ⟨0x04#8, iff_of_true rfl (by decide), fun _ => rfl⟩

theorem CodeRange.compare (a b : Bytes) : CodeRange.Statement (.compare a b) :=
  fun _ => ⟨0x05#8, iff_of_true rfl (by decide), fun _ => rfl⟩

theorem CodeRange.listen : CodeRange.Statement .listen :=
  fun _ => ⟨0x10#8, iff_of_true rfl (by decide), fun _ => rfl⟩

theorem CodeRange.send (ty : FrameType) (drq : Bool) (p : Bytes) : CodeRange.Statement (.send ty drq p) :=
  fun _ => ⟨0x11#8, iff_of_true rfl (by decide), fun _ => rfl⟩

theorem CodeRange.setdrsp (ptr : Nat) (n : Byte) : CodeRange.Statement (.setdrsp ptr n) :=
  fun _ => ⟨0x12#8, iff_of_true rfl (by decide), fun _ => rfl⟩

theorem CodeRange.busy : CodeRange.Statement .busy :=
  fun _ => ⟨0x13#8, iff_of_true rfl (by decide), fun _ => rfl⟩

theorem CodeRange.getpan : CodeRange.Statement .getpan :=
  fun _ => ⟨0x20#8, iff_of_true rfl (by decide), fun _ => rfl⟩

theorem CodeRange.getlink : CodeRange.Statement .getlink :=
  fun _ => ⟨0x21#8, iff_of_true rfl (by decide), fun _ => rfl⟩

theorem CodeRange.getlastsrc : CodeRange.Statement .getlastsrc :=
  fun _ => ⟨0x22#8, iff_of_true rfl (by decide), fun _ => rfl⟩

theorem CodeRange.getlastseq : CodeRange.Statement .getlastseq :=
  fun _ => ⟨0x23#8, iff_of_true rfl (by decide), fun _ => rfl⟩

theorem CodeRange.getrssi : CodeRange.Statement .getrssi :=
  fun _ => ⟨0x24#8, iff_of_true rfl (by decide), fun _ => rfl⟩

theorem CodeRange.getlqi : CodeRange.Statement .getlqi :=
  fun _ => ⟨0x25#8, iff_of_true rfl (by decide), fun _ => rfl⟩

theorem CodeRange.getcrc : CodeRange.Statement .getcrc :=
  fun _ => ⟨0x26#8, iff_of_true rfl (by decide), fun _ => rfl⟩

theorem CodeRange.fInit (pan addr : Bytes) (hook lrcb tocb : Bool) :
    CodeRange.Statement (.fInit pan addr hook lrcb tocb) :=
  fun _ => ⟨0x40#8, iff_of_true rfl (by decide), fun _ => rfl⟩

theorem CodeRange.connect (p : Bytes) : CodeRange.Statement (.connect p) :=
  fun _ => ⟨0x41#8, iff_of_true rfl (by decide), fun _ => rfl⟩

theorem CodeRange.disconnect : CodeRange.Statement .disconnect :=
  fun _ => ⟨0x42#8, iff_of_true rfl (by decide), fun _ => rfl⟩

theorem CodeRange.simpletransfer (p : Bytes) : CodeRange.Statement (.simpletransfer p) :=
  fun _ => ⟨0x43#8, iff_of_true rfl (by decide), fun _ => rfl⟩

theorem CodeRange.transfer (p : Bytes) : CodeRange.Statement (.transfer p) :=
  fun _ => ⟨0x44#8, iff_of_true rfl (by decide), fun _ => rfl⟩

theorem CodeRange.loaddataresponse (ptr : Nat) (n : Byte) : CodeRange.Statement (.loaddataresponse ptr n) :=
  fun _ => ⟨0x45#8, iff_of_true rfl (by decide), fun _ => rfl⟩

theorem CodeRange.fBusy : CodeRange.Statement .fBusy :=
  fun _ => ⟨0x46#8, iff_of_true rfl (by decide), fun _ => rfl⟩

theorem CodeRange.edgeTx : CodeRange.Statement .edgeTx :=
  fun _ => ⟨0x80#8, iff_of_true rfl (by decide), fun _ => rfl⟩

theorem CodeRange.edgeRx (env : Bytes) : CodeRange.Statement (.edgeRx env) :=
  fun _ => ⟨0x81#8, iff_of_true rfl (by decide), fun _ => rfl⟩

theorem CodeRange.tick : CodeRange.Statement .tick :=
  fun _ => ⟨0x82#8, iff_of_true rfl (by decide), fun _ => rfl⟩

theorem CodeRange.frameBuild (ty : FrameType) (drq : Bool) (p : Bytes) : CodeRange.Statement (.frameBuild ty drq p) :=
  fun _ => ⟨0xC0#8, iff_of_false (fun h => nomatch h) (by decide), fun _ => rfl⟩

theorem CodeRange.validateEp : CodeRange.Statement .validateEp :=
  fun _ => ⟨0xC1#8, iff_of_false (fun h => nomatch h) (by decide), fun _ => rfl⟩

theorem CodeRange.validateGw : CodeRange.Statement .validateGw :=
  fun _ => ⟨0xC2#8, iff_of_false (fun h => nomatch h) (by decide), fun _ => rfl⟩

theorem CodeRange.dispatchData : CodeRange.Statement .dispatchData :=
  fun _ => ⟨0xC3#8, iff_of_false (fun h => nomatch h) (by decide), fun _ => rfl⟩

theorem CodeRange.dispatchLinkRequest : CodeRange.Statement .dispatchLinkRequest :=
  fun _ => ⟨0xC4#8, iff_of_false (fun h => nomatch h) (by decide), fun _ => rfl⟩

theorem CodeRange.frameIdle : CodeRange.Statement .frameIdle :=
  fun _ => ⟨0xC5#8, iff_of_false (fun h => nomatch h) (by decide), fun _ => rfl⟩

theorem CodeRange.timeoutHandler : CodeRange.Statement .timeoutHandler :=
  fun _ => ⟨0xC6#8, iff_of_false (fun h => nomatch h) (by decide), fun _ => rfl⟩

theorem CodeRange.uSend (ty : FrameType) (drq : Bool) (p : Bytes) : CodeRange.Statement (.uSend ty drq p) :=
  fun _ => ⟨0xC7#8, iff_of_false (fun h => nomatch h) (by decide), fun _ => rfl⟩

theorem CodeRange.armReceive : CodeRange.Statement .armReceive :=
  fun _ => ⟨0xC8#8, iff_of_false (fun h => nomatch h) (by decide), fun _ => rfl⟩

theorem CodeRange.rxCheck (n : Byte) (ok : Bool) : CodeRange.Statement (.rxCheck n ok) :=
  fun _ => ⟨0xC9#8, iff_of_false (fun h => nomatch h) (by decide), fun _ => rfl⟩

theorem CodeRange.classify : CodeRange.Statement .classify :=
  fun _ => ⟨0xCA#8, iff_of_false (fun h => nomatch h) (by decide), fun _ => rfl⟩

theorem CodeRange.fDataEp (rsv : BitVec 4) (drq : Bool) : CodeRange.Statement (.fDataEp rsv drq) :=
  fun h => nomatch h

theorem CodeRange.fDataGw (rsv : BitVec 4) (drq : Bool) : CodeRange.Statement (.fDataGw rsv drq) :=
  fun h => nomatch h

theorem CodeRange.fLinkreqEp (rsv : BitVec 4) (drq : Bool) : CodeRange.Statement (.fLinkreqEp rsv drq) :=
  fun h => nomatch h

theorem CodeRange.fLinkreqGw (rsv : BitVec 4) (drq : Bool) : CodeRange.Statement (.fLinkreqGw rsv drq) :=
  fun h => nomatch h

theorem CodeRange.fReserved (ty : BitVec 2) (rsv : BitVec 4) (drq mode : Bool) :
    CodeRange.Statement (.fReserved ty rsv drq mode) :=
  fun h => nomatch h

end Sys2Proof.Laws
end

