-- ==== Sys2Proof/Tests/Slice0.lean ====
section
/-! SUPPORT. Tests and witnesses. The words and the expected results are those of 95_test_vectors section 2
(vector ids in the comments), where that file gives one, else written out by hand from the rule named. -/

namespace Sys2Proof.Tests

open Sys2Proof Sys2Proof.Machine

/-! ## Helpers: the named start states of 95_test_vectors section 0 -/

/-- What the decoder reads. -/
def decoded (c : Config) (w : Bytes) : Option Instr :=
  match decode c w with
  | .ok i => some i
  | .error _ => none

/-- A view of the next state. -/
def after {α : Type} (f : State → α) : Res → Option α
  | .next t => some (f t)
  | _ => none

/-- The cause of a refusal. -/
def refusal : Res → Option Refusal
  | .refused r => some r
  | _ => none

/-- `s` with one input pending, the environment answering true. -/
def given (s : State) (w : Bytes) : State := { s with pending := [⟨w, true, true, []⟩] }

/-- `s` with one input pending, the environment answering false. -/
def denied (s : State) (w : Bytes) : State := { s with pending := [⟨w, false, false, []⟩] }

/-- `E0`, with the timeout feature. -/
def e0 : State :=
  { State.reset with inited := true, localAddr := [0x11#8] }

/-- `EL`. -/
def eL : State := { e0 with panid := [0x07#8], remote := [0x22#8], afEn := true, afByte := 0x07#8 }

/-- `EF`. -/
def eF : State := { e0 with panid := [0x01#8], fixed := true, afEn := true, afByte := 0x01#8 }

/-- `E0h`: persistence hook and timeout callback present. -/
def e0h : State := { e0 with hook := true, tocb := true }

/-- A Gateway at power-on. -/
def gOff : State := State.powerOn Config.cfg1Gw

/-- `G0`. -/
def g0 : State :=
  { gOff with inited := true, panid := [0x07#8], localAddr := [0x22#8], afEn := true, afByte := 0x07#8 }

/-- `s` with a receive armed. -/
def listening (s : State) : State :=
  { s with busy := true, st := .listening, fbtag := .rxArmed, radio := .active }

/-- `s` with a receive armed and the timeout at `n`. -/
def counting (s : State) (n : BitVec 16) : State := { listening s with rxtoAct := true, rxto := n }

/-- `GL`. -/
def gL : State := listening g0

/-- `s` with frame bytes `f` in `FB`. -/
def holding (s : State) (f : Bytes) : State :=
  { s with fbtag := .rx, fb := Memory.writeBytes [] 0 f, len := BitVec.ofNat 8 (f.length - s.cfg.hdrLen) }

/-- `s` transmitting the frame `f`. -/
def transmitting (s : State) (f : Bytes) : State :=
  { holding s f with busy := true, st := .transmitting, fbtag := .tx, radio := .active }

/-- A Data frame of End Point origin to the Gateway, with a data request: `07 22 11 02 09 AA BB`. -/
def asks : Header := ⟨[0x07#8], [0x22#8], [0x11#8], 0x02#8, 0x09#8⟩

/-- The same without the request. -/
def tells : Header := { asks with ctl := 0x00#8 }

/-- A Link-Request of an unlinked End Point: `00 00 11 42 00`. -/
def joins : Header := ⟨[0x00#8], [0x00#8], [0x11#8], 0x42#8, 0x00#8⟩

/-- A Data frame of Gateway origin to the End Point: `07 11 22 03 04`. -/
def replies : Header := ⟨[0x07#8], [0x11#8], [0x22#8], 0x03#8, 0x04#8⟩

/-- A Link-Request of Gateway origin: `07 11 22 41 03`. -/
def acks : Header := ⟨[0x07#8], [0x11#8], [0x22#8], 0x41#8, 0x03#8⟩

/-- `s` with the frame of header `h` and payload `AA BB` in `FB`. -/
def holds (s : State) (h : Header) : State := holding s (headerBytes h ++ [0xAA#8, 0xBB#8])

/-! ## Well-formedness: each check refuses an ill-formed term -/

theorem test_wf_init_pan : (Instr.init [] [0x11#8] false false false).wellFormed Config.cfg1 = false := by decide

theorem test_wf_init_addr : (Instr.init [0#8] [0x11#8, 0#8] false false false).wellFormed Config.cfg1 = false := by
  decide

theorem test_wf_fInit_pan : (Instr.fInit [0#8] [0x11#8] false false false).wellFormed Config.cfg2 = false := by decide

theorem test_wf_fInit_addr : (Instr.fInit [0#8] [] false false false).wellFormed Config.cfg1 = false := by decide

theorem test_wf_isbcast : (Instr.isbcast []).wellFormed Config.cfg1 = false := by decide

theorem test_wf_linkestablish_pan : (Instr.linkestablish [] [0x22#8]).wellFormed Config.cfg1 = false := by decide

theorem test_wf_linkestablish_addr : (Instr.linkestablish [7#8] []).wellFormed Config.cfg1 = false := by decide

theorem test_wf_compare_empty : (Instr.compare [] []).wellFormed Config.cfg1 = false := by decide

theorem test_wf_compare_lengths : (Instr.compare [0x12#8] [0x12#8, 0x34#8]).wellFormed Config.cfg1 = false := by decide

/-- 256 payload bytes, one more than a payload length holds. -/
def tooLong : Bytes := List.replicate 256 0#8

theorem tooLong_length : tooLong.length = 256 := List.length_replicate

theorem test_wf_payload :
    (Instr.send .data false tooLong).wellFormed Config.cfg1 = false ∧
    (Instr.connect tooLong).wellFormed Config.cfg1 = false ∧
    (Instr.simpletransfer tooLong).wellFormed Config.cfg1 = false ∧
    (Instr.transfer tooLong).wellFormed Config.cfg1 = false ∧
    (Instr.frameBuild .data false tooLong).wellFormed Config.cfg1 = false ∧
    (Instr.uSend .data false tooLong).wellFormed Config.cfg1 = false := by
  simp only [Instr.wellFormed, tooLong_length]; decide

theorem test_wf_reserved_data : (Instr.fReserved 0#2 0#4 false false).wellFormed Config.cfg1 = false := by decide

theorem test_wf_reserved_linkreq : (Instr.fReserved 1#2 0#4 false false).wellFormed Config.cfg1 = false := by decide

theorem test_encodable_isbcast : (Instr.isbcast tooLong).encodable Config.cfg1 = false := by
  simp only [Instr.encodable, Instr.wellFormed, tooLong_length]; decide

theorem test_encodable_compare : (Instr.compare tooLong tooLong).encodable Config.cfg1 = false := by
  simp only [Instr.encodable, Instr.wellFormed, tooLong_length]; decide

theorem test_encodable_pointer : (Instr.setdrsp 0x10000 2#8).encodable Config.cfg1 = false ∧
    (Instr.loaddataresponse 0x10000 2#8).encodable Config.cfg1 = false := by decide

/-! ## Decoding: a word of every operation, written out (95_test_vectors section 2.12) -/

theorem test_decode_registry :
    decoded Config.cfg1 [0x00#8, 0x00#8, 0x11#8, 0x05#8] = some (.init [0x00#8] [0x11#8] true false true) ∧
    decoded Config.cfg2 [0x00#8, 0x12#8, 0x34#8, 0x00#8, 0x11#8, 0x00#8] =
      some (.init [0x12#8, 0x34#8] [0x00#8, 0x11#8] false false false) ∧
    decoded Config.cfg1 [0x01#8, 0x02#8, 0x00#8, 0x01#8] = some (.isbcast [0x00#8, 0x01#8]) ∧
    decoded Config.cfg1 [0x02#8] = some .linkexists ∧
    decoded Config.cfg1 [0x03#8, 0x07#8, 0x22#8] = some (.linkestablish [0x07#8] [0x22#8]) ∧
    decoded Config.cfg1 [0x04#8] = some .linkdestroy ∧
    decoded Config.cfg1 [0x05#8, 0x02#8, 0x12#8, 0x34#8, 0x12#8, 0x35#8] =
      some (.compare [0x12#8, 0x34#8] [0x12#8, 0x35#8]) := by decide

theorem test_decode_scheduler :
    decoded Config.cfg1 [0x10#8] = some .listen ∧
    decoded Config.cfg1 [0x11#8, 0x02#8, 0x02#8, 0xAA#8, 0xBB#8] = some (.send .data true [0xAA#8, 0xBB#8]) ∧
    decoded Config.cfg1 [0x11#8, 0x42#8, 0x00#8] = some (.send .linkReq true []) ∧
    decoded Config.cfg1 [0x12#8, 0x20#8, 0x00#8, 0x02#8] = some (.setdrsp 0x2000 0x02#8) ∧
    decoded Config.cfg1 [0x13#8] = some .busy := by decide

theorem test_decode_queries :
    decoded Config.cfg1 [0x20#8] = some .getpan ∧ decoded Config.cfg1 [0x21#8] = some .getlink ∧
    decoded Config.cfg1 [0x22#8] = some .getlastsrc ∧ decoded Config.cfg1 [0x23#8] = some .getlastseq ∧
    decoded Config.cfg1 [0x24#8] = some .getrssi ∧ decoded Config.cfg1 [0x25#8] = some .getlqi ∧
    decoded Config.cfg1 [0x26#8] = some .getcrc := by decide

theorem test_decode_facade :
    decoded Config.cfg1 [0x40#8, 0x01#8, 0x11#8, 0x04#8] = some (.fInit [0x01#8] [0x11#8] false false true) ∧
    decoded Config.cfg1 [0x41#8, 0x01#8, 0xA5#8] = some (.connect [0xA5#8]) ∧
    decoded Config.cfg1 [0x42#8] = some .disconnect ∧
    decoded Config.cfg1 [0x43#8, 0x03#8, 0x01#8, 0x02#8, 0x03#8] = some (.simpletransfer [0x01#8, 0x02#8, 0x03#8]) ∧
    decoded Config.cfg1 [0x44#8, 0x01#8, 0x01#8] = some (.transfer [0x01#8]) ∧
    decoded Config.cfg1 [0x45#8, 0x20#8, 0x00#8, 0x02#8] = some (.loaddataresponse 0x2000 0x02#8) ∧
    decoded Config.cfg1 [0x46#8] = some .fBusy := by decide

theorem test_decode_events :
    decoded Config.cfg1 [0x80#8] = some .edgeTx ∧
    decoded Config.cfg1 [0x81#8, 0x05#8, 0x07#8, 0x11#8, 0x22#8, 0x41#8, 0x03#8, 0x30#8, 0xAF#8] =
      some (.edgeRx [0x05#8, 0x07#8, 0x11#8, 0x22#8, 0x41#8, 0x03#8, 0x30#8, 0xAF#8]) ∧
    decoded Config.cfg1 [0x82#8] = some .tick := by decide

/-- The codes are those of 30_encoding R104; the operand layout is the model's own (log 5). -/
theorem test_decode_micro :
    decoded Config.cfg1 [0xC0#8, 0x40#8, 0x01#8, 0x09#8] = some (.frameBuild .linkReq false [0x09#8]) ∧
    decoded Config.cfg1 [0xC1#8] = some .validateEp ∧ decoded Config.cfg1 [0xC2#8] = some .validateGw ∧
    decoded Config.cfg1 [0xC3#8] = some .dispatchData ∧
    decoded Config.cfg1 [0xC4#8] = some .dispatchLinkRequest ∧
    decoded Config.cfg1 [0xC5#8] = some .frameIdle ∧ decoded Config.cfg1 [0xC6#8] = some .timeoutHandler ∧
    decoded Config.cfg1 [0xC7#8, 0x02#8, 0x00#8] = some (.uSend .data true []) ∧
    decoded Config.cfg1 [0xC8#8] = some .armReceive ∧
    decoded Config.cfg1 [0xC9#8, 0x05#8, 0x01#8] = some (.rxCheck 0x05#8 true) ∧
    decoded Config.cfg1 [0xCA#8] = some .classify := by decide

/-- Control bytes of 95_test_vectors section 2.4. -/
theorem test_decode_frame_classes :
    decodeCtl Config.cfg1 0x3E#8 = .fDataEp 0xF#4 true ∧ decodeCtl Config.cfg1 0x01#8 = .fDataGw 0#4 false ∧
    decodeCtl Config.cfg1 0x42#8 = .fLinkreqEp 0#4 true ∧ decodeCtl Config.cfg1 0x7F#8 = .fLinkreqGw 0xF#4 true ∧
    decodeCtl Config.cfg1 0x81#8 = .fReserved 2#2 0#4 false true ∧
    decodeCtl Config.cfg1 0xC0#8 = .fReserved 3#2 0#4 false false := by decide

/-- Illegal codes, missing and extra operand bytes, and bits the format keeps at 0. -/
theorem test_decode_refuses :
    decoded Config.cfg1 [0x06#8] = none ∧ decoded Config.cfg1 [0x14#8] = none ∧ decoded Config.cfg1 [] = none ∧
    decoded Config.cfg1 [0x02#8, 0x00#8] = none ∧ decoded Config.cfg1 [0x00#8, 0x00#8, 0x11#8, 0x08#8] = none ∧
    decoded Config.cfg1 [0x11#8, 0x01#8, 0x00#8] = none ∧ decoded Config.cfg1 [0x11#8, 0x80#8, 0x00#8] = none ∧
    decoded Config.cfg1 [0x11#8, 0x00#8, 0x02#8, 0xAA#8] = none := by decide

/-- The opcode-table word of `SEND`, and of a row of two operand bytes that are zero. -/
theorem test_table_words :
    decodeTableWord 8 0x10 = some .listen ∧ decodeTableWord 8 0x12 = some (.setdrsp 0 0#8) ∧
    decodeTableWord 24 0x420011 = none ∧ decodeTableWord 24 0x004211 = some (.send .linkReq true []) := by decide

/-! ## One step of each operation -/

/-- REG-1, REG-2, REG-3. -/
theorem test_init :
    after (fun t => (t.out, t.fixed, t.remote, t.inited))
      (step (given State.reset [0x00#8, 0x01#8, 0x11#8, 0x00#8])) =
      some ([.afEnable 0x01#8], true, [0x00#8], true) ∧
    after (fun t => (t.out, t.fixed, t.hook, t.tocb)) (step (given State.reset [0x00#8, 0x00#8, 0x11#8, 0x05#8])) =
      some ([.afDisable], false, true, true) ∧
    after (fun t => (t.out, t.lrcb, t.panid)) (step (given gOff [0x00#8, 0x07#8, 0x22#8, 0x02#8])) =
      some ([.afEnable 0x07#8], true, [0x07#8]) := by decide

/-- REG-4, REG-5, REG-6, REG-23, SC-14. -/
theorem test_contract_refusals :
    refusal (step (given gOff [0x00#8, 0x00#8, 0x22#8, 0x00#8])) = some .uGwBcastPan ∧
    refusal (step (given e0 [0x00#8, 0x01#8, 0x11#8, 0x00#8])) = some .uReinit ∧
    refusal (step (given State.reset [0x02#8])) = some .uPreinit ∧
    refusal (step (given g0 [0x04#8])) = some .uRole ∧
    refusal (step (given e0 [0x12#8, 0x20#8, 0x00#8, 0x03#8])) = some .uRole ∧
    refusal (step (given e0 [0xC5#8])) = some .uIllegalCode ∧
    refusal (step (given e0 [0x83#8])) = some .uIllegalCode := by decide

/-- REG-11, REG-12. -/
theorem test_isbcast :
    after (·.result) (step (given State.reset [0x01#8, 0x02#8, 0x00#8, 0x00#8])) = some (some (.bool true)) ∧
    after (·.result) (step (given State.reset [0x01#8, 0x02#8, 0x00#8, 0x01#8])) = some (some (.bool false)) := by
  decide

/-- REG-14, T1. -/
theorem test_linkexists :
    after (·.result) (step (given eL [0x02#8])) = some (some (.bool true)) ∧
    after (·.result) (step (given e0 [0x02#8])) = some (some (.bool false)) := by decide

/-- REG-13. -/
theorem test_linkestablish :
    after (fun t => (t.out, t.panid, t.remote)) (step (given e0h [0x03#8, 0x07#8, 0x22#8])) =
      some ([.afEnable 0x07#8, .backupWrite [0x00#8, 0x07#8, 0x11#8, 0x22#8]], [0x07#8], [0x22#8]) := by decide

/-- REG-18. -/
theorem test_linkestablish_fixed :
    after (fun t => (t.out, t.panid, t.remote)) (step (given eF [0x03#8, 0x07#8, 0x22#8])) =
      some ([], [0x01#8], [0x22#8]) := by decide

/-- FA-8 and REG-16's registers. -/
theorem test_linkdestroy :
    after (fun t => (t.out, t.panid, t.remote, t.afEn)) (step (given eL [0x04#8])) =
      some ([.afDisable], [0x00#8], [0x00#8], false) := by decide

/-- REG-27, REG-28. -/
theorem test_compare :
    after (·.result) (step (given e0 [0x05#8, 0x02#8, 0x00#8, 0xFF#8, 0x01#8, 0x00#8])) = some (some (.order .lt)) ∧
    after (·.result) (step (given e0 [0x05#8, 0x01#8, 0x80#8, 0x7F#8])) = some (some (.order .gt)) := by decide

/-- SC-2, SC-3. -/
theorem test_listen :
    after (fun t => (t.out, t.st, t.rxto, t.rxtoAct)) (step (given e0 [0x10#8])) =
      some ([.phyArmRx], .listening, 3#16, true) ∧
    after (fun t => (t.out, t.result, t.rxto)) (step (given (counting e0 2#16) [0x10#8])) =
      some ([], some (.bool false), 2#16) := by decide

/-- FB-2. -/
theorem test_send_wraps_seq :
    after (fun t => (t.out, t.seq, t.len, t.fbtag)) (step (given { eL with seq := 0xFF#8 } [0x11#8, 0x02#8, 0x01#8, 0xAA#8])) =
      some ([.phyTx [0x07#8, 0x22#8, 0x11#8, 0x02#8, 0xFF#8, 0xAA#8]], 0x00#8, 0x01#8, .tx) := by decide

/-- SC-6. -/
theorem test_send_not_taken :
    after (fun t => (t.result, t.st, t.seq)) (step (denied eL [0x11#8, 0x02#8, 0x01#8, 0xAA#8])) =
      some (some (.bool false), .idle, 0x01#8) := by decide

/-- SC-12. -/
theorem test_setdrsp :
    after (fun t => (t.out, t.drspPtr, t.drspLen)) (step (given gL [0x12#8, 0x20#8, 0x00#8, 0x03#8])) =
      some ([], 0x2000, 3#8) := by decide

/-- SC-15. -/
theorem test_busy :
    after (·.result) (step (given (listening e0) [0x13#8])) = some (some (.bool true)) := by decide

/-- SQ-9. -/
theorem test_getpan : after (·.result) (step (given eF [0x20#8])) = some (some (.bytes [0x01#8])) := by decide

/-- SQ-10. -/
theorem test_getlink : after (·.result) (step (given eL [0x21#8])) = some (some (.bool true)) := by decide

/-- SQ-8, SQ-6. -/
theorem test_getlastsrc :
    after (·.result) (step (given (holds eL replies) [0x22#8])) = some (some (.bytes [0x22#8])) ∧
    refusal (step (given gL [0x22#8])) = some .uFbUndefined := by decide

/-- SQ-8, SQ-5. -/
theorem test_getlastseq :
    after (·.result) (step (given (holds eL replies) [0x23#8])) = some (some (.byte 0x04#8)) ∧
    refusal (step (given e0 [0x23#8])) = some .uFbUndefined := by decide

/-- `e0` after a reception with status bytes `30 AF` (SQ-2). -/
def heard : State := { e0 with lastV := true, lastRssi := 0x30#8, lastLqi := 0x2F#7, lastCrc := true }

/-- SQ-2. -/
theorem test_latches :
    after (·.result) (step (given heard [0x24#8])) = some (some (.byte 0x30#8)) ∧
    after (·.result) (step (given heard [0x25#8])) = some (some (.byte 0x2F#8)) ∧
    after (·.result) (step (given heard [0x26#8])) = some (some (.bool true)) := by decide

/-- SQ-1. -/
theorem test_latches_undefined :
    refusal (step (given e0 [0x24#8])) = some .uLatchUndefined ∧
    refusal (step (given e0 [0x25#8])) = some .uLatchUndefined ∧
    refusal (step (given e0 [0x26#8])) = some .uLatchUndefined := by decide

/-- FA-1. -/
theorem test_fInit :
    after (fun t => (t.out, t.result)) (step (given State.reset [0x40#8, 0x00#8, 0x11#8, 0x00#8])) =
      some ([.afDisable], some (.bool true)) := by decide

/-- FA-3, FA-4. -/
theorem test_connect :
    after (fun t => (t.out, t.result, t.len)) (step (given e0 [0x41#8, 0x01#8, 0xA5#8])) =
      some ([.phyTx [0x00#8, 0x00#8, 0x11#8, 0x42#8, 0x00#8, 0xA5#8]], some (.bool false), 1#8) ∧
    after (fun t => (t.out, t.result)) (step (given eL [0x41#8, 0x00#8])) = some ([], some (.bool true)) := by decide

/-- FA-8. -/
theorem test_disconnect :
    after (fun t => (t.out, t.panid, t.remote)) (step (given eL [0x42#8])) =
      some ([.afDisable], [0x00#8], [0x00#8]) := by decide

/-- FA-10. -/
theorem test_simpletransfer :
    after (fun t => (t.out, t.result)) (step (given e0 [0x43#8, 0x01#8, 0x01#8])) =
      some ([.phyTx [0x00#8, 0x00#8, 0x11#8, 0x00#8, 0x00#8, 0x01#8]], some (.bool true)) := by decide

/-- FA-11, FA-12. -/
theorem test_transfer :
    after (·.out) (step (given { eL with seq := 0x02#8 } [0x44#8, 0x01#8, 0x01#8])) =
      some [.phyTx [0x07#8, 0x22#8, 0x11#8, 0x02#8, 0x02#8, 0x01#8]] ∧
    after (fun t => (t.out, t.result)) (step (given e0 [0x44#8, 0x01#8, 0x01#8])) = some ([], some (.bool false)) := by
  decide

/-- FA-13. -/
theorem test_loaddataresponse :
    after (fun t => (t.drspPtr, t.drspLen)) (step (given gL [0x45#8, 0x20#8, 0x00#8, 0x02#8])) =
      some (0x2000, 2#8) := by decide

/-- FA-14. -/
theorem test_fBusy : after (·.result) (step (given g0 [0x46#8])) = some (some (.bool false)) := by decide

/-- SC-9, SC-8. -/
theorem test_edgeTx :
    after (fun t => (t.out, t.st)) (step (given (transmitting eL [0x07#8, 0x22#8, 0x11#8, 0x00#8, 0x00#8]) [0x80#8])) =
      some ([.cbFrameCompleteEp [] 0#8, .phyLowPower], .idle) ∧
    after (fun t => (t.out, t.st)) (step (given (transmitting eL [0x07#8, 0x22#8, 0x11#8, 0x02#8, 0x00#8]) [0x80#8])) =
      some ([.phyArmRx], .listening) := by decide

/-- SC-10. -/
theorem test_edgeTx_gateway :
    after (fun t => (t.out, t.st)) (step (given (transmitting g0 [0x07#8, 0x11#8, 0x22#8, 0x01#8, 0x00#8]) [0x80#8])) =
      some ([.cbFrameCompleteGw false [] 0#8, .phyLowPower, .phyArmRx], .listening) := by decide

/-- VE-19. -/
theorem test_edgeRx_endpoint :
    after (fun t => (t.out, t.fb.read 3))
      (step (given (listening eL) [0x81#8, 0x06#8, 0x07#8, 0x11#8, 0x22#8, 0x03#8, 0x05#8, 0xC1#8, 0x30#8, 0xAF#8])) =
      some ([.cbFrameCompleteEp [0xC1#8] 1#8, .phyLowPower], some 0x01#8) := by decide

/-- DP-3, with the staged bytes stored by the host before the event. -/
theorem test_edgeRx_turnaround :
    after (fun t => (t.out, t.st, t.drspLen, t.seq))
      (step { gL with
        drspPtr := 0x2000, drspLen := 2#8, seq := 0x04#8,
        pending := [⟨[0x81#8, 0x07#8, 0x07#8, 0x22#8, 0x11#8, 0x02#8, 0x09#8, 0xAA#8, 0xBB#8, 0x30#8, 0xAF#8], true, true,
          [(0x2000, 0xC1#8), (0x2001, 0xC2#8)]⟩] }) =
      some ([.cbFrameCompleteGw true [0xAA#8, 0xBB#8] 2#8, .phyActive,
        .phyTx [0x07#8, 0x11#8, 0x22#8, 0x01#8, 0x04#8, 0xC1#8, 0xC2#8]], .transmitting, 0#8, 0x05#8) := by decide

/-- TO-1: the last tick, and one before. -/
theorem test_tick :
    after (fun t => (t.out, t.st, t.rxtoAct, t.fbtag)) (step (given (counting e0h 1#16) [0x82#8])) =
      some ([.cbTimeout, .phyLowPower], .idle, false, .none) ∧
    after (fun t => (t.out, t.rxto)) (step (given (counting e0h 2#16) [0x82#8])) = some ([], 1#16) := by decide

/-! ### Micro-operations -/

/-- FB-15's build: the reserved bits of the old control byte are not kept. -/
theorem test_frameBuild_gateway :
    after (fun t => (t.fb.readBytes 0 6, t.seq, t.out))
      (exec (.frameBuild .data false [0xC1#8])
        { holding g0 [0x07#8, 0x22#8, 0x11#8, 0x3E#8, 0x09#8, 0xAA#8] with seq := 0x04#8 }) =
      some (some [0x07#8, 0x11#8, 0x22#8, 0x01#8, 0x04#8, 0xC1#8], 0x05#8, []) := by decide

/-- VE-10, VE-7. -/
theorem test_validateEp :
    after (·.result) (exec .validateEp (holds eL { acks with pan := [0x09#8] })) =
      some (some (.verdict (some .rPan))) ∧
    after (·.result) (exec .validateEp (holds e0 acks)) = some (some (.verdict none)) := by decide

/-- VG-9, VG-5. -/
theorem test_validateGw :
    after (·.result) (exec .validateGw (holds g0 ⟨[0x09#8], [0x33#8], [0x11#8], 0#8, 0#8⟩)) =
      some (some (.verdict (some .rDest))) ∧
    after (·.result) (exec .validateGw (holds g0 ⟨[0x00#8], [0x00#8], [0x11#8], 0#8, 0#8⟩)) =
      some (some (.verdict none)) := by decide

/-- DP-2 without the reception: T8. -/
theorem test_dispatchData :
    after (fun t => (t.out, t.st)) (exec .dispatchData (holds g0 asks)) =
      some ([.cbFrameCompleteGw true [0xAA#8, 0xBB#8] 2#8, .phyLowPower, .phyArmRx], .listening) := by decide

/-- DP-11 and DP-7 without the reception. -/
theorem test_dispatchLinkRequest :
    after (fun t => (t.out, t.panid, t.remote)) (exec .dispatchLinkRequest (holds e0h acks)) =
      some ([.afEnable 0x07#8, .backupWrite [0x00#8, 0x07#8, 0x11#8, 0x22#8], .phyLowPower], [0x07#8], [0x22#8]) ∧
    after (fun t => (t.out, t.seq)) (exec .dispatchLinkRequest { holds g0 joins with seq := 0x03#8 }) =
      some ([.phyActive, .phyTx [0x07#8, 0x11#8, 0x22#8, 0x41#8, 0x03#8]], 0x04#8) := by decide

/-- 43_scheduler_fsm R198. -/
theorem test_frameIdle :
    after (fun t => (t.out, t.radio)) (exec .frameIdle e0) = some ([.phyLowPower], .lowPower) ∧
    after (fun t => (t.out, t.radio)) (exec .frameIdle g0) = some ([.phyLowPower, .phyArmRx], .active) := by decide

/-- 43_scheduler_fsm R200. -/
theorem test_timeoutHandler :
    after (fun t => (t.out, t.busy, t.fbtag)) (exec .timeoutHandler (listening e0)) =
      some ([.phyLowPower], false, .none) := by decide

/-- DP-4's refused send: nothing changes, `-> false`. -/
theorem test_uSend_capacity :
    after (fun t => (t.result, t.seq, t.out)) (exec (.uSend .data false (List.replicate 16 0#8)) e0) =
      some (some (.bool false), 0#8, []) := by decide

/-- 43_scheduler_fsm R181. -/
theorem test_armReceive :
    after (fun t => (t.out, t.fbtag, t.rxto)) (exec .armReceive e0) = some ([.phyArmRx], .rxArmed, 3#16) := by decide

/-- RX-3 and RX-7: the length is tested before the CRC, and 20 bytes still fit. -/
theorem test_rxCheck :
    after (·.result) (exec (.rxCheck 0x15#8 true) g0) = some (some (.verdict (some .rLength))) ∧
    after (·.result) (exec (.rxCheck 0x04#8 false) g0) = some (some (.verdict (some .rLength))) ∧
    after (·.result) (exec (.rxCheck 0x14#8 true) g0) = some (some (.verdict none)) := by decide

/-- Section 2.4: `0x42` is a Link-Request. -/
theorem test_classify :
    after (·.result) (exec .classify (holds g0 joins)) = some (some (.frameClass .linkReq)) := by decide

/-! ### Frame classes -/

/-- VG-2, VE-1. -/
theorem test_fDataEp :
    after (·.out) (exec (.fDataEp 0#4 false) (holds g0 tells)) =
      some [.cbFrameCompleteGw false [0xAA#8, 0xBB#8] 2#8, .phyLowPower, .phyArmRx] ∧
    after (fun t => (t.out, t.cause)) (exec (.fDataEp 0#4 false) (holds eL replies)) =
      some ([.phyLowPower], some (.reject .rMode)) := by decide

/-- VE-16: reserved bits stay in `FB`. -/
theorem test_fDataGw :
    after (fun t => (t.out, t.fb.read 3)) (exec (.fDataGw 0xF#4 false) (holds eL replies)) =
      some ([.cbFrameCompleteEp [0xAA#8, 0xBB#8] 2#8, .phyLowPower], some 0x3D#8) := by decide

/-- DP-9: the callback denies. -/
theorem test_fLinkreqEp :
    after (fun t => (t.out, t.st)) (exec (.fLinkreqEp 0#4 true) { holds g0 joins with lrcb := true, lrAccept := false }) =
      some ([.cbLinkRequest [0x00#8] [0x11#8] [0xAA#8, 0xBB#8] 2#8, .phyLowPower, .phyArmRx], .listening) := by decide

/-- VE-7. -/
theorem test_fLinkreqGw :
    after (fun t => (t.out, t.panid)) (exec (.fLinkreqGw 0#4 false) (holds e0 acks)) =
      some ([.afEnable 0x07#8, .phyLowPower], [0x07#8]) := by decide

/-- VE-14, VE-15: the PAN id is tested before the type. -/
theorem test_fReserved :
    after (·.cause) (exec (.fReserved 2#2 0#4 false true) (holds eL replies)) = some (some (.reject .rType)) ∧
    after (·.cause) (exec (.fReserved 2#2 0#4 false true) (holds eL { replies with pan := [0x09#8] })) =
      some (some (.reject .rPan)) := by decide

/-! ## Witnesses: states and operands that meet the hypotheses of the statements

One theorem for each statement with hypotheses, named after it; a statement with several clauses has a conjunct or a
theorem for each, at the ends of the ranges it names. -/

/-- A payload of 15 bytes, the most a `CFG1` frame takes. -/
def p15 : Bytes := List.replicate 15 0xA5#8

/-- A payload of 16 bytes, the fewest that do not fit. -/
def p16 : Bytes := List.replicate 16 0xA5#8

/-- The longest payload a command takes. -/
def p255 : Bytes := List.replicate 255 0xA5#8

theorem p255_length : p255.length = 255 := List.length_replicate

theorem sized_e0 : FieldsSized e0 := ⟨by decide, by decide, by decide⟩

theorem sized_eL : FieldsSized eL := ⟨by decide, by decide, by decide⟩

theorem sized_g0 : FieldsSized g0 := ⟨by decide, by decide, by decide⟩

theorem linkUp_eL : LinkUp eL := ⟨0x22#8, by decide, by decide⟩

theorem not_linkUp_e0 : ¬ LinkUp e0 := by unfold LinkUp; decide

theorem holds_asks : HoldsFrame (holds g0 asks) asks [0xAA#8, 0xBB#8] :=
  ⟨by decide, by decide, by decide, by decide, by decide, by decide, by decide⟩

theorem holds_tells : HoldsFrame (holds g0 tells) tells [0xAA#8, 0xBB#8] :=
  ⟨by decide, by decide, by decide, by decide, by decide, by decide, by decide⟩

theorem holds_joins : HoldsFrame (holds g0 joins) joins [0xAA#8, 0xBB#8] :=
  ⟨by decide, by decide, by decide, by decide, by decide, by decide, by decide⟩

theorem holds_replies : HoldsFrame (holds eL replies) replies [0xAA#8, 0xBB#8] :=
  ⟨by decide, by decide, by decide, by decide, by decide, by decide, by decide⟩

theorem holds_acks : HoldsFrame (holds e0 acks) acks [0xAA#8, 0xBB#8] :=
  ⟨by decide, by decide, by decide, by decide, by decide, by decide, by decide⟩

theorem fits_asks : asks.Fits g0.cfg := ⟨by decide, by decide, by decide⟩

theorem fits_joins : joins.Fits g0.cfg := ⟨by decide, by decide, by decide⟩

theorem fits_replies : replies.Fits eL.cfg := ⟨by decide, by decide, by decide⟩

theorem fits_acks : acks.Fits e0.cfg := ⟨by decide, by decide, by decide⟩

/-- A frame in flight on `EL`. -/
def sending : State := transmitting eL [0x07#8, 0x22#8, 0x11#8, 0x02#8, 0x00#8]

/-- A frame in flight on `G0`. -/
def answeringG : State := transmitting g0 [0x07#8, 0x11#8, 0x22#8, 0x01#8, 0x00#8]

theorem inv_e0 : Inv e0 :=
  ⟨by decide, by decide, by decide, by decide, by decide, by decide, fun _ =>
    ⟨by decide, by decide, by decide, by decide, by decide, by decide, by decide, by decide, by decide, by decide,
      by decide, by decide⟩⟩

theorem witness_DecodeInvertsEncode :
    Config.cfg1.valid = true ∧ (Instr.setdrsp 0xFFFF 0xFF#8).encodable Config.cfg1 = true ∧
    (Instr.setdrsp 0xFFFF 0xFF#8).isFrameClass = false ∧ (Instr.isbcast p255).encodable Config.cfg1 = true := by
  refine ⟨by decide, by decide, by decide, ?_⟩
  simp only [Instr.encodable, Instr.wellFormed, p255_length]; decide

theorem witness_EncodeInvertsDecode :
    decode Config.cfg1 [0x81#8] = .ok (.edgeRx []) ∧ decode Config.cfg1 [0xC9#8, 0xFF#8, 0x01#8] = .ok (.rxCheck 0xFF#8 true) :=
  ⟨rfl, rfl⟩

theorem witness_ControlByteHasOneFrameClass :
    Config.cfg1.valid = true ∧ (Instr.fReserved 3#2 0xF#4 true true).isFrameClass = true ∧
    (Instr.fReserved 3#2 0xF#4 true true).wellFormed Config.cfg1 = true := by decide

theorem witness_StepRunsThePendingInput :
    e0.cfg.valid = true ∧ (given e0 [0x82#8]).pending = [⟨[0x82#8], true, true, []⟩] ∧
    decode e0.cfg [0x82#8] = .ok .tick ∧ Instr.tick.isInput = true := ⟨by decide, rfl, rfl, rfl⟩

theorem witness_StepRunsThePendingInput_waits :
    e0.cfg.valid = true ∧ e0.pending = [] := by decide

theorem witness_WordsThatAreNoInputAreRefused :
    decode Config.cfg1 [0xC1#8] = .ok .validateEp ∧ Instr.validateEp.isInput = false ∧
    decode Config.cfg1 [0x82#8] = .ok .tick ∧ Instr.tick.isInput = true := ⟨rfl, rfl, rfl, rfl⟩

theorem witness_WordsThatAreNoInputAreRefused_step :
    e0.cfg.valid = true ∧ e0.inited = true ∧ decode e0.cfg [0xC5#8] = .ok .frameIdle ∧
    decode e0.cfg [0x83#8] = .error .illegalCode ∧ decode e0.cfg [0xC0#8] = .error (.badOperand 0xC0#8) ∧
    decode e0.cfg [0x82#8, 0x00#8] = .error (.badOperand 0x82#8) ∧ onlyRole 0x82#8 = none ∧
    decode e0.cfg [0x03#8] = .error (.badOperand 0x03#8) ∧ onlyRole 0x03#8 = some e0.cfg.role ∧
    decode e0.cfg [0x12#8] = .error (.badOperand 0x12#8) ∧ onlyRole 0x12#8 = some .gw ∧ e0.cfg.role = .ep :=
  ⟨rfl, rfl, rfl, rfl, rfl, rfl, rfl, rfl, rfl, rfl, rfl, rfl⟩

theorem witness_WordsThatAreNoInputAreRefused_preinit :
    State.reset.cfg.valid = true ∧ State.reset.inited = false ∧ decode State.reset.cfg [0xC5#8] = .ok .frameIdle ∧
    decode State.reset.cfg [0x83#8] = .error .illegalCode ∧
    decode State.reset.cfg [0x40#8] = .error (.badOperand 0x40#8) ∧
    decode State.reset.cfg [0x41#8] = .error (.badOperand 0x41#8) :=
  ⟨rfl, rfl, rfl, rfl, rfl, rfl⟩

theorem witness_InitComesFirstAndOnce :
    State.reset.inited = false ∧ Instr.listen ≠ .isbcast [] ∧ e0.inited = true ∧ [0x07#8].length = e0.cfg.panW ∧
    [0x22#8].length = e0.cfg.addrW := by decide

theorem witness_OtherRoleIsRefused :
    g0.inited = true ∧ g0.cfg.role = .gw ∧ e0.inited = true ∧ e0.cfg.role = .ep := by decide

theorem witness_OperandRangesAreChecked :
    State.reset.inited = false ∧ ([] : Bytes).length ≠ State.reset.cfg.panW ∧ e0.inited = true ∧ e0.cfg.role = .ep ∧
    ([] : Bytes).length ≠ e0.cfg.panW ∧ [0#8, 0#8].length ≠ e0.cfg.addrW ∧
    255 < tooLong.length ∧ e0.cfg.linkreqCode = 1#2 :=
  ⟨rfl, by decide, rfl, rfl, by decide, by decide, by rw [tooLong_length]; decide, rfl⟩

theorem witness_InitEndPoint :
    State.reset.inited = false ∧ State.reset.cfg.role = .ep ∧ State.reset.cfg.valid = true ∧
    [0x01#8].length = State.reset.cfg.panW ∧ [0x11#8].length = State.reset.cfg.addrW ∧
    (∃ b ∈ [0x01#8], b ≠ State.reset.cfg.bcast) ∧ (∀ b ∈ [0x00#8], b = State.reset.cfg.bcast) := by decide

theorem witness_InitGateway :
    gOff.inited = false ∧ gOff.cfg.role = .gw ∧ gOff.cfg.valid = true ∧ [0x07#8].length = gOff.cfg.panW ∧
    [0x22#8].length = gOff.cfg.addrW ∧ (∃ b ∈ [0x07#8], b ≠ gOff.cfg.bcast) ∧ (∀ b ∈ [0x00#8], b = gOff.cfg.bcast) := by
  decide

theorem witness_IsBroadcastTestsEveryByte :
    1 ≤ [0x00#8].length := by decide

theorem witness_LinkQueriesReadRemote :
    eL.inited = true ∧ eL.cfg.role = .ep ∧ g0.inited = true ∧ g0.cfg.role = .gw ∧ State.reset.inited = false := by
  decide

theorem witness_LinkEstablishAdoptsPeer :
    e0h.inited = true ∧ e0h.cfg.role = .ep ∧ e0h.cfg.valid = true ∧ [0x07#8].length = e0h.cfg.panW ∧
    [0x22#8].length = e0h.cfg.addrW ∧ e0h.hook = true ∧ e0h.fixed = false ∧ eF.fixed = true := by decide

theorem witness_LinkDestroyResetsLink :
    eL.inited = true ∧ eL.cfg.role = .ep ∧ eL.fixed = false ∧ eF.fixed = true ∧ e0h.hook = true := by decide

theorem witness_LinkLifeCycle :
    e0.cfg.role = .ep ∧ e0.cfg.valid = true ∧ (∃ t, exec (.init [0x01#8] [0x11#8] false false false) State.reset = .next t) ∧
    (∃ t, exec (.linkestablish [0x07#8] [0x22#8]) e0 = .next t) ∧ (∃ b ∈ [0x22#8], b ≠ e0.cfg.bcast) ∧
    (∃ t, exec .linkdestroy eL = .next t) := ⟨rfl, by decide, ⟨_, rfl⟩, ⟨_, rfl⟩, by decide, ⟨_, rfl⟩⟩

theorem witness_CompareIsLexicographic :
    1 ≤ [0x00#8, 0xFF#8].length ∧ [0x00#8, 0xFF#8].length = [0x01#8, 0x00#8].length := by decide

theorem witness_ListenArmsReceive :
    e0.inited = true ∧ e0.busy = false ∧ g0.inited = true ∧ g0.busy = false := by decide

theorem witness_ContentionChangesNothing :
    (listening eL).inited = true ∧ (listening eL).busy = true ∧ p255.length ≤ 255 ∧ (listening eL).cfg.role = .ep ∧
    LinkUp (listening eL) ∧ ¬ LinkUp (listening e0) := ⟨rfl, rfl, by rw [p255_length], rfl, linkUp_eL, not_linkUp_e0⟩

theorem witness_CapacityChangesNothing :
    eL.inited = true ∧ eL.busy = false ∧ p16.length ≤ 255 ∧ eL.cfg.maxFrame < p16.length + eL.cfg.hdrLen ∧
    eL.cfg.role = .ep ∧ LinkUp eL ∧ ¬ LinkUp e0 := ⟨rfl, rfl, by decide, by decide, rfl, linkUp_eL, not_linkUp_e0⟩

/-- `G0` holding a frame that asks for data, with `n` bytes staged at `0x2000`, of which two are known. -/
def staged (n : Byte) : State :=
  { holds g0 asks with drspPtr := 0x2000, drspLen := n, hm := [(0x2000, 0xC1#8), (0x2001, 0xC2#8)] }

/-- Fifteen bytes are staged, the most that fit; the host has told two of them. -/
theorem holds_staged15 : HoldsFrame (staged 15#8) asks [0xAA#8, 0xBB#8] :=
  ⟨by decide, by decide, by decide, by decide, by decide, by decide, by decide⟩

theorem stagedReply_told : StagedReply (staged 2#8) [0xC1#8, 0xC2#8] := by
  refine ⟨rfl, fun k b hk hb => ?_⟩
  match k, hk with
  | 0, _ => exact hb
  | 1, _ => exact hb

theorem holds_staged2 : HoldsFrame (staged 2#8) asks [0xAA#8, 0xBB#8] :=
  ⟨by decide, by decide, by decide, by decide, by decide, by decide, by decide⟩

theorem holds_staged16 : HoldsFrame (staged 16#8) asks [0xAA#8, 0xBB#8] :=
  ⟨by decide, by decide, by decide, by decide, by decide, by decide, by decide⟩

theorem witness_CapacityChangesNothing_turnaround :
    (staged 16#8).inited = true ∧ (staged 16#8).cfg.role = .gw ∧ (staged 16#8).busy = false ∧
    HoldsFrame (staged 16#8) asks [0xAA#8, 0xBB#8] ∧ asks.ctl.getLsbD 1 = true ∧ (staged 16#8).drspLen ≠ 0#8 ∧
    (staged 16#8).cfg.maxFrame < (staged 16#8).drspLen.toNat + (staged 16#8).cfg.hdrLen :=
  ⟨rfl, rfl, rfl, holds_staged16, by decide, by decide, by decide⟩

theorem witness_EndPointSendTransmitsBuiltFrame :
    eL.inited = true ∧ eL.cfg.role = .ep ∧ eL.cfg.valid = true ∧ FieldsSized eL ∧ eL.busy = false ∧
    p15.length + eL.cfg.hdrLen ≤ eL.cfg.maxFrame := ⟨rfl, rfl, by decide, sized_eL, rfl, by decide⟩

theorem witness_GatewaySendAnswersLastSource :
    (holds g0 tells).inited = true ∧ (holds g0 tells).cfg.role = .gw ∧ (holds g0 tells).cfg.valid = true ∧
    FieldsSized (holds g0 tells) ∧ (holds g0 tells).busy = false ∧
    p15.length + (holds g0 tells).cfg.hdrLen ≤ (holds g0 tells).cfg.maxFrame ∧
    HoldsFrame (holds g0 tells) tells [0xAA#8, 0xBB#8] ∧ g0.inited = true ∧ FieldsSized g0 ∧ g0.fbtag = .none :=
  ⟨rfl, rfl, by decide, ⟨rfl, rfl, fun h => nomatch h⟩, rfl, by decide, holds_tells, rfl, sized_g0, rfl⟩

theorem witness_SimpleTransferSendsOneWay :
    g0.inited = true ∧ g0.cfg.role = .gw ∧ p255.length ≤ 255 ∧ eL.inited = true ∧ eL.cfg.role = .ep ∧
    eL.cfg.valid = true ∧ FieldsSized eL ∧ (listening eL).busy = true ∧
    eL.cfg.maxFrame < p16.length + eL.cfg.hdrLen ∧ p15.length + eL.cfg.hdrLen ≤ eL.cfg.maxFrame ∧ eL.phyAccept = true :=
  ⟨rfl, rfl, by rw [p255_length], rfl, rfl, by decide, sized_eL, rfl, by decide, by decide, rfl⟩

theorem witness_ConnectAndTransfer :
    e0.inited = true ∧ e0.cfg.role = .ep ∧ e0.cfg.valid = true ∧ FieldsSized e0 ∧ ¬ LinkUp e0 ∧ e0.busy = false ∧
    p15.length ≤ 255 ∧ p15.length + e0.cfg.hdrLen ≤ e0.cfg.maxFrame ∧ FieldsSized eL ∧ LinkUp eL ∧ eL.busy = false ∧
    eL.phyAccept = true :=
  ⟨rfl, rfl, by decide, sized_e0, not_linkUp_e0, rfl, by decide, by decide, sized_eL, linkUp_eL, rfl, rfl⟩

theorem witness_StagingKeepsAReference :
    g0.inited = true ∧ g0.cfg.role = .gw := by decide

theorem witness_BusyQueryReadsFlag :
    e0.inited = true ∧ Inv e0 := ⟨rfl, inv_e0⟩

theorem witness_StatusQueriesReadAndKeepState :
    (holds eL replies).inited = true ∧ HoldsFrame (holds eL replies) replies [0xAA#8, 0xBB#8] ∧
    e0.inited = true ∧ e0.fbtag = .none ∧ gL.fbtag = .rxArmed ∧ heard.inited = true ∧ heard.lastV = true ∧
    e0.lastV = false := ⟨rfl, holds_replies, rfl, rfl, rfl, rfl, rfl, rfl⟩

theorem witness_FrameBuildStampsEveryField :
    e0.inited = true ∧ e0.cfg.valid = true ∧ FieldsSized e0 ∧ p15.length + e0.cfg.hdrLen ≤ e0.cfg.maxFrame ∧
    e0.cfg.role = .ep ∧ FieldsSized (holds g0 asks) ∧ (holds g0 asks).cfg.role = .gw ∧
    HoldsFrame (holds g0 asks) asks [0xAA#8, 0xBB#8] :=
  ⟨rfl, by decide, sized_e0, by decide, rfl, ⟨rfl, rfl, fun h => nomatch h⟩, rfl, holds_asks⟩

theorem witness_BuildThenParseRoundTrip :
    eL.cfg.valid = true ∧ FieldsSized eL ∧ p15.length + eL.cfg.hdrLen ≤ eL.cfg.maxFrame ∧
    ∃ t, exec (.frameBuild .data false p15) eL = .next t := ⟨by decide, sized_eL, by decide, ⟨_, rfl⟩⟩

theorem witness_RxCheckLengthThenCrc :
    g0.inited = true ∧ 4 < g0.cfg.hdrLen ∧ ¬ 5 < g0.cfg.hdrLen ∧ ¬ g0.cfg.maxFrame < 20 ∧ g0.cfg.maxFrame < 21 := by
  decide

theorem witness_ClassifyReadsTypeBits :
    (holds g0 joins).inited = true ∧ (holds g0 joins).cfg.valid = true ∧ (holds g0 joins).fbtag = .rx ∧
    (holds g0 joins).fb.read ((holds g0 joins).cfg.panW + 2 * (holds g0 joins).cfg.addrW) = some 0x42#8 := by decide

/-- Accepted on the own PAN id. -/
theorem witness_EndPointFilter :
    (holds eL replies).inited = true ∧ (holds eL replies).cfg.role = .ep ∧
    HoldsFrame (holds eL replies) replies [0xAA#8, 0xBB#8] ∧ replies.ctl.getLsbD 0 = true ∧
    replies.dst = (holds eL replies).localAddr ∧ replies.pan = (holds eL replies).panid :=
  ⟨rfl, rfl, holds_replies, by decide, rfl, rfl⟩

/-- The exception for an unlinked End Point. -/
theorem witness_EndPointFilter_adopts :
    HoldsFrame (holds e0 acks) acks [0xAA#8, 0xBB#8] ∧ acks.ctl.getLsbD 0 = true ∧
    acks.dst = (holds e0 acks).localAddr ∧ acks.pan ≠ (holds e0 acks).panid ∧
    acks.ctl.extractLsb' 6 2 = (holds e0 acks).cfg.linkreqCode ∧ (holds e0 acks).cfg.linkreqCode ≠ 0#2 ∧
    ¬ LinkUp (holds e0 acks) ∧ (holds e0 acks).fixed = false :=
  ⟨holds_acks, by decide, rfl, by decide, by decide, by decide, not_linkUp_e0, rfl⟩

/-- Frames an End Point rejects, and a Gateway's. -/
def foreign (h : Header) : Header := { h with pan := [0x09#8] }

theorem holds_foreign_acks : HoldsFrame (holds eL (foreign acks)) (foreign acks) [0xAA#8, 0xBB#8] :=
  ⟨by decide, by decide, by decide, by decide, by decide, by decide, by decide⟩

theorem holds_replies_e0 : HoldsFrame (holds e0 replies) replies [0xAA#8, 0xBB#8] :=
  ⟨by decide, by decide, by decide, by decide, by decide, by decide, by decide⟩

theorem holds_acks_eF : HoldsFrame (holds eF acks) acks [0xAA#8, 0xBB#8] :=
  ⟨by decide, by decide, by decide, by decide, by decide, by decide, by decide⟩

theorem holds_tells_eL : HoldsFrame (holds eL tells) tells [0xAA#8, 0xBB#8] :=
  ⟨by decide, by decide, by decide, by decide, by decide, by decide, by decide⟩

theorem witness_EndPointFilter_rejects :
    HoldsFrame (holds eL tells) tells [0xAA#8, 0xBB#8] ∧ tells.ctl.getLsbD 0 = false ∧
    HoldsFrame (holds eL (foreign acks)) (foreign acks) [0xAA#8, 0xBB#8] ∧ (foreign acks).dst = eL.localAddr ∧
    (foreign acks).pan ≠ eL.panid ∧ LinkUp eL ∧ HoldsFrame (holds eF acks) acks [0xAA#8, 0xBB#8] ∧ acks.pan ≠ eF.panid ∧
    eF.fixed = true ∧ HoldsFrame (holds e0 replies) replies [0xAA#8, 0xBB#8] ∧ replies.pan ≠ e0.panid ∧
    replies.ctl.extractLsb' 6 2 ≠ e0.cfg.linkreqCode :=
  ⟨holds_tells_eL, by decide, holds_foreign_acks, rfl, by decide, linkUp_eL, holds_acks_eF, by decide, rfl,
    holds_replies_e0, by decide, by decide⟩

/-- A frame to another address, and one of reserved type. -/
def elsewhere (h : Header) : Header := { h with dst := [0x33#8] }

theorem holds_elsewhere_replies : HoldsFrame (holds eL (elsewhere replies)) (elsewhere replies) [0xAA#8, 0xBB#8] :=
  ⟨by decide, by decide, by decide, by decide, by decide, by decide, by decide⟩

theorem holds_elsewhere_tells : HoldsFrame (holds g0 (elsewhere tells)) (elsewhere tells) [0xAA#8, 0xBB#8] :=
  ⟨by decide, by decide, by decide, by decide, by decide, by decide, by decide⟩

theorem holds_foreign_tells : HoldsFrame (holds g0 (foreign tells)) (foreign tells) [0xAA#8, 0xBB#8] :=
  ⟨by decide, by decide, by decide, by decide, by decide, by decide, by decide⟩

theorem holds_replies_g0 : HoldsFrame (holds g0 replies) replies [0xAA#8, 0xBB#8] :=
  ⟨by decide, by decide, by decide, by decide, by decide, by decide, by decide⟩

theorem witness_EndPointFilter_elsewhere :
    HoldsFrame (holds eL (elsewhere replies)) (elsewhere replies) [0xAA#8, 0xBB#8] ∧
    (elsewhere replies).ctl.getLsbD 0 = true ∧ (elsewhere replies).dst ≠ eL.localAddr :=
  ⟨holds_elsewhere_replies, by decide, by decide⟩

theorem witness_GatewayFilter :
    (holds g0 asks).inited = true ∧ (holds g0 asks).cfg.role = .gw ∧ HoldsFrame (holds g0 asks) asks [0xAA#8, 0xBB#8] ∧
    asks.ctl.getLsbD 0 = false ∧ asks.dst = g0.localAddr ∧ asks.pan = g0.panid ∧
    HoldsFrame (holds g0 joins) joins [0xAA#8, 0xBB#8] ∧ joins.ctl.getLsbD 0 = false ∧
    (∀ b ∈ joins.dst, b = g0.cfg.bcast) ∧ (∀ b ∈ joins.pan, b = g0.cfg.bcast) :=
  ⟨rfl, rfl, holds_asks, by decide, rfl, rfl, holds_joins, by decide, by decide, by decide⟩

theorem witness_GatewayFilter_rejects :
    HoldsFrame (holds g0 replies) replies [0xAA#8, 0xBB#8] ∧ replies.ctl.getLsbD 0 = true ∧
    HoldsFrame (holds g0 (elsewhere tells)) (elsewhere tells) [0xAA#8, 0xBB#8] ∧
    (elsewhere tells).dst ≠ g0.localAddr ∧ (∃ b ∈ (elsewhere tells).dst, b ≠ g0.cfg.bcast) ∧
    HoldsFrame (holds g0 (foreign tells)) (foreign tells) [0xAA#8, 0xBB#8] ∧ (foreign tells).pan ≠ g0.panid ∧
    (∃ b ∈ (foreign tells).pan, b ≠ g0.cfg.bcast) :=
  ⟨holds_replies_g0, by decide, holds_elsewhere_tells, by decide, by decide, holds_foreign_tells, by decide, by decide⟩

/-- `asks` with another source, sequence number and reserved bits, and no request. -/
def other : Header := { asks with src := [0x99#8], ctl := 0x3C#8, seq := 0xFF#8 }

/-- `replies` so changed. -/
def otherReply : Header := { replies with src := [0x99#8], ctl := 0x3D#8, seq := 0xFF#8 }

theorem holds_other : HoldsFrame { holds g0 other with seq := 0xFF#8, busy := true } other [0xAA#8, 0xBB#8] :=
  ⟨by decide, by decide, by decide, by decide, by decide, by decide, by decide⟩

theorem holds_otherReply : HoldsFrame { holds eL otherReply with seq := 0xFF#8 } otherReply [0xAA#8, 0xBB#8] :=
  ⟨by decide, by decide, by decide, by decide, by decide, by decide, by decide⟩

theorem witness_FiltersReadOnlyTheirInputs :
    HoldsFrame (holds g0 asks) asks [0xAA#8, 0xBB#8] ∧
    HoldsFrame { holds g0 other with seq := 0xFF#8, busy := true } other [0xAA#8, 0xBB#8] ∧ (holds g0 asks).inited = true ∧
    (holds g0 asks).cfg.role = .gw ∧ other.pan = asks.pan ∧ other.dst = asks.dst ∧
    other.ctl &&& 0xC1#8 = asks.ctl &&& 0xC1#8 ∧ HoldsFrame (holds eL replies) replies [0xAA#8, 0xBB#8] ∧
    HoldsFrame { holds eL otherReply with seq := 0xFF#8 } otherReply [0xAA#8, 0xBB#8] ∧
    otherReply.ctl &&& 0xC1#8 = replies.ctl &&& 0xC1#8 ∧ (holds eL replies).cfg.role = .ep :=
  ⟨holds_asks, holds_other, rfl, rfl, rfl, rfl, by decide, holds_replies, holds_otherReply, by decide, rfl⟩

theorem witness_DispatchDataConsumesRequestBit :
    (holds eL replies).inited = true ∧ HoldsFrame (holds eL replies) replies [0xAA#8, 0xBB#8] ∧
    (holds eL replies).cfg.role = .ep ∧ (holds g0 tells).inited = true ∧ HoldsFrame (holds g0 tells) tells [0xAA#8, 0xBB#8] ∧
    (holds g0 tells).cfg.role = .gw ∧ tells.ctl.getLsbD 1 = false ∧ HoldsFrame (holds g0 asks) asks [0xAA#8, 0xBB#8] ∧
    (holds g0 asks).drspLen = 0#8 := ⟨rfl, holds_replies, rfl, rfl, holds_tells, rfl, by decide, holds_asks, rfl⟩

theorem witness_DispatchDataConsumesRequestBit_turnaround :
    (staged 15#8).inited = true ∧ HoldsFrame (staged 15#8) asks [0xAA#8, 0xBB#8] ∧ (staged 15#8).cfg.role = .gw ∧
    (staged 15#8).cfg.valid = true ∧ FieldsSized (staged 15#8) ∧ (staged 15#8).busy = false ∧
    asks.ctl.getLsbD 1 = true ∧ (staged 15#8).drspLen ≠ 0#8 ∧
    (staged 15#8).drspLen.toNat + (staged 15#8).cfg.hdrLen ≤ (staged 15#8).cfg.maxFrame :=
  ⟨rfl, holds_staged15, rfl, by decide, ⟨rfl, rfl, fun h => nomatch h⟩, rfl, by decide, by decide, by decide⟩

theorem witness_LinkRequestsAreDispatched :
    (holds e0 acks).inited = true ∧ HoldsFrame (holds e0 acks) acks [0xAA#8, 0xBB#8] ∧ (holds e0 acks).cfg.role = .ep ∧
    (holds g0 joins).inited = true ∧ HoldsFrame (holds g0 joins) joins [0xAA#8, 0xBB#8] ∧ (holds g0 joins).cfg.role = .gw ∧
    (holds g0 joins).cfg.valid = true ∧ FieldsSized (holds g0 joins) ∧ (holds g0 joins).busy = false ∧
    (holds g0 joins).lrcb = false :=
  ⟨rfl, holds_acks, rfl, rfl, holds_joins, rfl, by decide, ⟨rfl, rfl, fun h => nomatch h⟩, rfl, rfl⟩

/-- `G0` holding a Link-Request, with the callback connected and the answer `b`. -/
def asked (b : Bool) : State := { holds g0 joins with lrcb := true, lrAccept := b }

theorem holds_asked_false : HoldsFrame (asked false) joins [0xAA#8, 0xBB#8] :=
  ⟨by decide, by decide, by decide, by decide, by decide, by decide, by decide⟩

theorem holds_asked_true : HoldsFrame (asked true) joins [0xAA#8, 0xBB#8] :=
  ⟨by decide, by decide, by decide, by decide, by decide, by decide, by decide⟩

theorem witness_LinkRequestsAreDispatched_callback :
    HoldsFrame (asked false) joins [0xAA#8, 0xBB#8] ∧ (asked false).lrcb = true ∧ (asked false).lrAccept = false ∧
    HoldsFrame (asked true) joins [0xAA#8, 0xBB#8] ∧ (asked true).lrAccept = true ∧ FieldsSized (asked true) ∧
    FieldsSized (asked false) :=
  ⟨holds_asked_false, rfl, rfl, holds_asked_true, rfl, ⟨rfl, rfl, fun h => nomatch h⟩, ⟨rfl, rfl, fun h => nomatch h⟩⟩

theorem witness_ArmIdleAndTimeoutOperations :
    e0.inited = true ∧ e0.cfg.role = .ep ∧ g0.inited = true ∧ g0.cfg.role = .gw := by decide

theorem witness_TransmitDone :
    sending.inited = true ∧ sending.cfg.valid = true ∧ sending.st = .transmitting ∧ sending.fbtag = .tx ∧
    sending.fb.read (sending.cfg.panW + 2 * sending.cfg.addrW) = some 0x02#8 ∧ (0x02#8 : Byte).getLsbD 1 = true ∧
    answeringG.inited = true ∧ answeringG.cfg.valid = true ∧ answeringG.st = .transmitting ∧ answeringG.fbtag = .tx ∧
    answeringG.fb.read (answeringG.cfg.panW + 2 * answeringG.cfg.addrW) = some 0x01#8 ∧
    (0x01#8 : Byte).getLsbD 1 = false ∧ answeringG.cfg.role = .gw := by decide

theorem witness_TransmitDone_endpoint :
    (transmitting eL [0x07#8, 0x22#8, 0x11#8, 0x00#8, 0x00#8]).fb.read (eL.cfg.panW + 2 * eL.cfg.addrW) = some 0x00#8 ∧
    (transmitting eL [0x07#8, 0x22#8, 0x11#8, 0x00#8, 0x00#8]).st = .transmitting ∧
    (transmitting eL [0x07#8, 0x22#8, 0x11#8, 0x00#8, 0x00#8]).fbtag = .tx ∧ eL.cfg.role = .ep := by decide

theorem witness_EndPointReceivesFrame :
    (listening eL).inited = true ∧ (listening eL).cfg.role = .ep ∧ (listening eL).cfg.valid = true ∧
    (listening eL).st = .listening ∧ replies.Fits (listening eL).cfg ∧
    (listening eL).cfg.hdrLen + p15.length ≤ (listening eL).cfg.maxFrame ∧ 128 ≤ (0x80#8 : Byte).toNat ∧
    replies.dst = (listening eL).localAddr ∧ replies.ctl &&& 0xC1#8 = 0x01#8 ∧ replies.pan = (listening eL).panid :=
  ⟨rfl, rfl, by decide, rfl, fits_replies, by decide, by decide, rfl, by decide, rfl⟩

theorem witness_EndPointReceivesFrame_link :
    (listening e0).st = .listening ∧ acks.Fits (listening e0).cfg ∧ acks.dst = (listening e0).localAddr ∧
    acks.ctl &&& 0xC1#8 = ((listening e0).cfg.linkreqCode.setWidth 8 <<< 6) ||| 0x01#8 ∧
    ¬ LinkUp (listening e0) ∧ (listening e0).fixed = false ∧ acks.pan = (listening eL).panid :=
  ⟨rfl, fits_acks, rfl, by decide, not_linkUp_e0, rfl, rfl⟩

theorem witness_GatewayReceivesData :
    gL.inited = true ∧ gL.cfg.role = .gw ∧ gL.cfg.valid = true ∧ gL.st = .listening ∧ asks.Fits gL.cfg ∧
    gL.cfg.hdrLen + p15.length ≤ gL.cfg.maxFrame ∧ 128 ≤ (0x80#8 : Byte).toNat ∧ asks.ctl &&& 0xC1#8 = 0x00#8 ∧
    asks.dst = gL.localAddr ∧ asks.pan = gL.panid ∧ gL.drspLen = 0#8 ∧ tells.ctl &&& 0xC1#8 = 0x00#8 ∧
    tells.ctl.getLsbD 1 = false :=
  ⟨rfl, rfl, by decide, rfl, fits_asks, by decide, by decide, by decide, rfl, rfl, rfl, by decide, by decide⟩

theorem witness_GatewayReceivesData_turnaround :
    (listening (staged 15#8)).st = .listening ∧ FieldsSized (listening (staged 15#8)) ∧ asks.ctl.getLsbD 1 = true ∧
    (listening (staged 15#8)).drspLen ≠ 0#8 ∧
    (listening (staged 15#8)).drspLen.toNat + (listening (staged 15#8)).cfg.hdrLen ≤
      (listening (staged 15#8)).cfg.maxFrame :=
  ⟨rfl, ⟨rfl, rfl, fun h => nomatch h⟩, by decide, by decide, by decide⟩

/-- DP-4: a staged reply of 16 bytes. -/
theorem witness_GatewayReceivesData_tooLong :
    (listening (staged 16#8)).st = .listening ∧ asks.Fits (listening (staged 16#8)).cfg ∧ asks.ctl.getLsbD 1 = true ∧
    asks.ctl &&& 0xC1#8 = 0x00#8 ∧ (listening (staged 16#8)).drspLen ≠ 0#8 ∧
    (listening (staged 16#8)).cfg.maxFrame <
      (listening (staged 16#8)).drspLen.toNat + (listening (staged 16#8)).cfg.hdrLen :=
  ⟨rfl, fits_asks, by decide, by decide, by decide, by decide⟩

theorem witness_GatewayReceivesLinkRequest :
    gL.inited = true ∧ gL.cfg.role = .gw ∧ gL.cfg.valid = true ∧ FieldsSized gL ∧ gL.st = .listening ∧
    joins.Fits gL.cfg ∧ gL.cfg.hdrLen + p15.length ≤ gL.cfg.maxFrame ∧ 128 ≤ (0xFF#8 : Byte).toNat ∧
    joins.ctl &&& 0xC1#8 = gL.cfg.linkreqCode.setWidth 8 <<< 6 ∧ (∀ b ∈ joins.dst, b = gL.cfg.bcast) ∧
    (∀ b ∈ joins.pan, b = gL.cfg.bcast) :=
  ⟨rfl, rfl, by decide, ⟨rfl, rfl, fun h => nomatch h⟩, rfl, fits_joins, by decide, by decide, by decide, by decide,
    by decide⟩

theorem witness_LengthAndCrcRejectionsAreSilent :
    gL.inited = true ∧ gL.st = .listening ∧ (0x04#8 : Byte).toNat < gL.cfg.hdrLen ∧
    gL.cfg.maxFrame < (0x15#8 : Byte).toNat ∧ (List.replicate 21 0#8).length = (0x15#8 : Byte).toNat ∧
    gL.cfg.hdrLen ≤ (0x05#8 : Byte).toNat ∧ (0x14#8 : Byte).toNat ≤ gL.cfg.maxFrame ∧ (0x7F#8 : Byte).toNat < 128 := by
  decide

theorem witness_FilterRejectionsAreSilent_endpoint :
    (listening eL).inited = true ∧ (listening eL).st = .listening ∧ replies.Fits (listening eL).cfg ∧
    (listening eL).cfg.hdrLen + p15.length ≤ (listening eL).cfg.maxFrame ∧ (listening eL).cfg.role = .ep ∧
    tells.ctl.getLsbD 0 = false ∧ (elsewhere replies).dst ≠ (listening eL).localAddr ∧
    (foreign replies).dst = (listening eL).localAddr ∧ (foreign replies).pan ≠ (listening eL).panid ∧
    LinkUp (listening eL) ∧ (0x81#8 : Byte).extractLsb' 6 2 ≠ 0#2 ∧
    (0x81#8 : Byte).extractLsb' 6 2 ≠ (listening eL).cfg.linkreqCode :=
  ⟨rfl, rfl, fits_replies, by decide, rfl, by decide, by decide, rfl, by decide, linkUp_eL, by decide, by decide⟩

theorem witness_FilterRejectionsAreSilent_gateway :
    gL.inited = true ∧ gL.st = .listening ∧ asks.Fits gL.cfg ∧ gL.cfg.role = .gw ∧ replies.ctl.getLsbD 0 = true ∧
    (elsewhere tells).ctl.getLsbD 0 = false ∧ (elsewhere tells).dst ≠ gL.localAddr ∧
    (∃ b ∈ (elsewhere tells).dst, b ≠ gL.cfg.bcast) ∧ (foreign tells).dst = gL.localAddr ∧
    (foreign tells).pan ≠ gL.panid ∧ (∃ b ∈ (foreign tells).pan, b ≠ gL.cfg.bcast) ∧ tells.pan = gL.panid ∧
    (0xC0#8 : Byte).extractLsb' 6 2 ≠ 0#2 ∧ (0xC0#8 : Byte).extractLsb' 6 2 ≠ gL.cfg.linkreqCode :=
  ⟨rfl, rfl, fits_asks, rfl, by decide, by decide, by decide, by decide, rfl, by decide, by decide, rfl, by decide,
    by decide⟩

theorem witness_SpuriousAndMalformedEventsAreRefused :
    e0.inited = true ∧ e0.st ≠ .transmitting ∧ e0.st ≠ .listening ∧ gL.inited = true ∧ gL.st = .listening ∧
    [0x07#8, 0x07#8, 0x22#8, 0x11#8, 0x30#8, 0xAF#8].length ≠ (0x07#8 : Byte).toNat + 3 := by decide

theorem witness_TickCountsDown :
    gL.inited = true ∧ gL.cfg.role = .gw ∧ (counting e0 2#16).inited = true ∧ (counting e0 2#16).cfg.role = .ep ∧
    (counting e0 2#16).cfg.rxtoEn = true ∧ (counting e0 2#16).rxtoAct = true ∧ 2 ≤ (counting e0 2#16).rxto.toNat ∧
    (counting e0 1#16).rxtoAct = true ∧ (counting e0 1#16).rxto.toNat = 1 := by decide

theorem witness_TimeoutFiresOnLastTick :
    e0.inited = true ∧ e0.cfg.valid = true ∧ e0.cfg.role = .ep ∧ e0.cfg.rxtoEn = true ∧ 2 < e0.cfg.rxtoTicks := by
  decide

theorem witness_EndPointDispatchesGatewayClasses :
    (holds eL replies).inited = true ∧ (holds eL replies).cfg.role = .ep ∧ (holds eL replies).cfg.valid = true ∧
    HoldsFrame (holds eL replies) replies [0xAA#8, 0xBB#8] ∧ replies.dst = (holds eL replies).localAddr ∧
    replies.pan = (holds eL replies).panid ∧ HoldsFrame (holds e0 acks) acks [0xAA#8, 0xBB#8] ∧
    acks.dst = (holds e0 acks).localAddr ∧ ¬ LinkUp (holds e0 acks) ∧ (holds e0 acks).fixed = false :=
  ⟨rfl, rfl, by decide, holds_replies, rfl, rfl, holds_acks, rfl, not_linkUp_e0, rfl⟩

theorem witness_GatewayDispatchesEndPointClasses :
    (holds g0 asks).inited = true ∧ (holds g0 asks).cfg.role = .gw ∧ (holds g0 asks).cfg.valid = true ∧
    FieldsSized (holds g0 asks) ∧ (holds g0 asks).busy = false ∧ HoldsFrame (holds g0 asks) asks [0xAA#8, 0xBB#8] ∧
    asks.dst = (holds g0 asks).localAddr ∧ asks.pan = (holds g0 asks).panid ∧ (holds g0 asks).drspLen = 0#8 ∧
    (holds g0 asks).lrcb = false ∧ (asked false).lrcb = true ∧ (asked false).lrAccept = false ∧
    HoldsFrame (asked false) joins [0xAA#8, 0xBB#8] ∧ (∀ b ∈ joins.dst, b = g0.cfg.bcast) ∧
    (∀ b ∈ joins.pan, b = g0.cfg.bcast) :=
  ⟨rfl, rfl, by decide, ⟨rfl, rfl, fun h => nomatch h⟩, rfl, holds_asks, rfl, rfl, rfl, rfl, rfl, rfl, holds_asked_false,
    by decide, by decide⟩

/-- A staged reply that fits, one that does not, and a callback that accepts. -/
theorem witness_GatewayDispatchesEndPointClasses_answered :
    FieldsSized (staged 15#8) ∧ (staged 15#8).busy = false ∧ HoldsFrame (staged 15#8) asks [0xAA#8, 0xBB#8] ∧
    (staged 15#8).drspLen ≠ 0#8 ∧ (staged 15#8).drspLen.toNat + (staged 15#8).cfg.hdrLen ≤ (staged 15#8).cfg.maxFrame ∧
    HoldsFrame (staged 16#8) asks [0xAA#8, 0xBB#8] ∧
    (staged 16#8).cfg.maxFrame < (staged 16#8).drspLen.toNat + (staged 16#8).cfg.hdrLen ∧
    HoldsFrame (asked true) joins [0xAA#8, 0xBB#8] ∧ FieldsSized (asked true) ∧ (asked true).busy = false ∧
    (asked true).lrcb = true ∧ (asked true).lrAccept = true :=
  ⟨⟨rfl, rfl, fun h => nomatch h⟩, rfl, holds_staged15, by decide, by decide, holds_staged16, by decide,
    holds_asked_true, ⟨rfl, rfl, fun h => nomatch h⟩, rfl, rfl, rfl⟩

theorem witness_OtherFrameClassesAreRejected :
    (holds eL replies).inited = true ∧ (holds eL replies).cfg.valid = true ∧
    HoldsFrame (holds eL replies) replies [0xAA#8, 0xBB#8] ∧ (2#2 : BitVec 2) ≠ 0#2 ∧
    (2#2 : BitVec 2) ≠ (holds eL replies).cfg.linkreqCode ∧ replies.dst = (holds eL replies).localAddr ∧
    replies.pan = (holds eL replies).panid ∧ (holds eL replies).cfg.role = .ep ∧ (holds g0 asks).inited = true ∧
    HoldsFrame (holds g0 asks) asks [0xAA#8, 0xBB#8] ∧ asks.dst = g0.localAddr ∧ asks.pan = g0.panid ∧ g0.cfg.role = .gw :=
  ⟨rfl, by decide, holds_replies, by decide, by decide, rfl, rfl, rfl, rfl, holds_asks, rfl, rfl, rfl⟩

theorem witness_InvariantHoldsAtReset :
    Config.cfg2Gw.valid = true := by decide

theorem inv_given_e0 : Inv (given e0 [0x10#8]) :=
  ⟨by decide, by decide, by decide, by decide, by decide, by decide, fun _ =>
    ⟨by decide, by decide, by decide, by decide, by decide, by decide, by decide, by decide, by decide, by decide,
      by decide, by decide⟩⟩

theorem inv_given_gL : Inv (given gL [0x13#8]) :=
  ⟨by decide, by decide, by decide, by decide, by decide, by decide, fun _ =>
    ⟨by decide, by decide, by decide, by decide, by decide, by decide, by decide, by decide, by decide, by decide,
      by decide, by decide⟩⟩

theorem inv_given_sending : Inv (given sending [0x13#8]) :=
  ⟨by decide, by decide, by decide, by decide, by decide, by decide, fun _ =>
    ⟨by decide, by decide, by decide, by decide, by decide, by decide, by decide, by decide, by decide, by decide,
      by decide, by decide⟩⟩

theorem inv_given_ending : Inv (given sending [0x80#8]) :=
  ⟨by decide, by decide, by decide, by decide, by decide, by decide, fun _ =>
    ⟨by decide, by decide, by decide, by decide, by decide, by decide, by decide, by decide, by decide, by decide,
      by decide, by decide⟩⟩

theorem inv_given_eL : Inv (given eL [0x11#8, 0x00#8, 0x00#8]) :=
  ⟨by decide, by decide, by decide, by decide, by decide, by decide, fun _ =>
    ⟨by decide, by decide, by decide, by decide, by decide, by decide, by decide, by decide, by decide, by decide,
      by decide, by decide⟩⟩

theorem inv_given_counting : Inv (given (counting e0 1#16) [0x82#8]) :=
  ⟨by decide, by decide, by decide, by decide, by decide, by decide, fun _ =>
    ⟨by decide, by decide, by decide, by decide, by decide, by decide, by decide, by decide, by decide, by decide,
      by decide, by decide⟩⟩

theorem inv_given_answering : Inv (given answeringG [0x80#8]) :=
  ⟨by decide, by decide, by decide, by decide, by decide, by decide, fun _ =>
    ⟨by decide, by decide, by decide, by decide, by decide, by decide, by decide, by decide, by decide, by decide,
      by decide, by decide⟩⟩

theorem witness_StepKeepsInvariant :
    Inv (given e0 [0x10#8]) ∧ ∃ t, step (given e0 [0x10#8]) = .next t := ⟨inv_given_e0, ⟨_, rfl⟩⟩

theorem witness_StepNeverFaults :
    Inv (given sending [0x80#8]) := inv_given_ending

theorem witness_OnlyTheContractRefuses :
    Inv e0 ∧ e0.inited = true ∧ (Instr.send .data true p255).isInput = true ∧
    (Instr.send .data true p255).wellFormed e0.cfg = true := by
  refine ⟨inv_e0, rfl, rfl, ?_⟩
  simp only [Instr.wellFormed, p255_length]; decide

theorem witness_IdentityAndHostMemoryAreKept :
    (∃ t, step (given eL [0x42#8]) = .next t) ∧ (given eL [0x42#8]).inited = true ∧
    (given eL [0x42#8]).pending = [⟨[0x42#8], true, true, []⟩] := ⟨⟨_, rfl⟩, rfl, rfl⟩

theorem witness_RegistryChangesOnlyByLinkOperations :
    (given eL [0x42#8]).inited = true ∧ (given eL [0x42#8]).pending = [⟨[0x42#8], true, true, []⟩] ∧
    (∃ t, step (given eL [0x42#8]) = .next t ∧ t.panid ≠ (given eL [0x42#8]).panid) ∧
    (∃ t, step (given gL [0x13#8]) = .next t) ∧ (given gL [0x13#8]).cfg.role = .gw ∧
    (∃ t, step (given eF [0x42#8]) = .next t) ∧ (given eF [0x42#8]).fixed = true :=
  ⟨rfl, rfl, ⟨_, rfl, by decide⟩, ⟨_, rfl⟩, rfl, ⟨_, rfl⟩, rfl⟩

theorem witness_SequenceAdvancesPerFrame :
    (given eL [0x11#8, 0x00#8, 0x00#8]).inited = true ∧
    (given eL [0x11#8, 0x00#8, 0x00#8]).pending = [⟨[0x11#8, 0x00#8, 0x00#8], true, true, []⟩] ∧
    ∃ t, step (given eL [0x11#8, 0x00#8, 0x00#8]) = .next t ∧ (framesSent t.out).length = 1 :=
  ⟨rfl, rfl, ⟨_, rfl, by decide⟩⟩

theorem witness_FrameInFlightIsStable :
    Inv (given sending [0x13#8]) ∧ (given sending [0x13#8]).inited = true ∧ (given sending [0x13#8]).st = .transmitting ∧
    (given sending [0x13#8]).pending = [⟨[0x13#8], true, true, []⟩] ∧ (∃ t, step (given sending [0x13#8]) = .next t) ∧
    decode sending.cfg [0x13#8] = .ok .busy := ⟨inv_given_sending, rfl, rfl, rfl, ⟨_, rfl⟩, rfl⟩

theorem witness_FrameInFlightIsStable_sent :
    Inv (given eL [0x11#8, 0x00#8, 0x00#8]) ∧ ∃ t, step (given eL [0x11#8, 0x00#8, 0x00#8]) = .next t ∧
    t.st = .transmitting ∧ framesSent t.out = [[0x07#8, 0x22#8, 0x11#8, 0x00#8, 0x00#8]] :=
  ⟨inv_given_eL, ⟨_, rfl, by decide, by decide⟩⟩

theorem witness_StateTransitionsAreTheTable :
    (Inv (given e0 [0x10#8]) ∧ decode e0.cfg [0x10#8] = .ok .listen ∧ (given e0 [0x10#8]).st = .idle ∧
      ∃ t, step (given e0 [0x10#8]) = .next t ∧ t.st = .listening) ∧
    (Inv (given (counting e0 1#16) [0x82#8]) ∧ decode e0.cfg [0x82#8] = .ok .tick ∧ (counting e0 1#16).st = .listening ∧
      ∃ t, step (given (counting e0 1#16) [0x82#8]) = .next t ∧ t.st = .idle) ∧
    (Inv (given answeringG [0x80#8]) ∧ decode answeringG.cfg [0x80#8] = .ok .edgeTx ∧ answeringG.st = .transmitting ∧
      ∃ t, step (given answeringG [0x80#8]) = .next t ∧ t.st = .listening) :=
  ⟨⟨inv_given_e0, rfl, rfl, ⟨_, rfl, by decide⟩⟩, ⟨inv_given_counting, rfl, rfl, ⟨_, rfl, by decide⟩⟩,
    ⟨inv_given_answering, rfl, rfl, ⟨_, rfl, by decide⟩⟩⟩

/-- A Gateway that listens and is asked, with a reply staged. -/
def askedStaged : State := given
  { gL with drspPtr := 0x2000, drspLen := 2#8, hm := [(0x2000, 0xC1#8), (0x2001, 0xC2#8)] }
  (0x81#8 :: envelopeOf asks [] 0x30#8 0x80#8)

theorem inv_askedStaged : Inv askedStaged :=
  ⟨by decide, by decide, by decide, by decide, by decide, by decide, fun _ =>
    ⟨by decide, by decide, by decide, by decide, by decide, by decide, by decide, by decide, by decide, by decide,
      by decide, by decide⟩⟩

theorem witness_StateTransitionsAreTheTable_answers :
    Inv askedStaged ∧ askedStaged.st = .listening ∧ GatewayAnswers askedStaged asks true ∧
    decode askedStaged.cfg (0x81#8 :: envelopeOf asks [] 0x30#8 0x80#8) =
      .ok (.edgeRx (envelopeOf asks [] 0x30#8 0x80#8)) ∧
    ∃ t, step askedStaged = .next t ∧ t.st = .transmitting :=
  ⟨inv_askedStaged, rfl, ⟨by decide, .inl rfl, .inl rfl, .inl ⟨by decide, by decide, by decide, by decide⟩⟩, rfl,
    ⟨_, rfl, by decide⟩⟩

/-- The ends of a transmission: an End Point that asked, and one that did not. -/
theorem witness_StateTransitionsAreTheTable_sent :
    Inv (given sending [0x80#8]) ∧ SentRequest sending true ∧
    (∃ t, step (given sending [0x80#8]) = .next t ∧ t.st = .listening) ∧ SentRequest answeringG false ∧
    Inv (given eL [0x11#8, 0x00#8, 0x00#8]) ∧
    ∃ t, step (given eL [0x11#8, 0x00#8, 0x00#8]) = .next t ∧ t.st = .transmitting :=
  ⟨inv_given_ending, ⟨0x02#8, by decide, by decide⟩, ⟨_, rfl, by decide⟩, ⟨0x01#8, by decide, by decide⟩,
    inv_given_eL, ⟨_, rfl, by decide⟩⟩

theorem witness_ReservedBitsHaveNoEffect :
    (listening eL).cfg.valid = true ∧ FieldsSized (listening eL) ∧ replies.Fits (listening eL).cfg ∧
    (headerBytes replies ++ p15).length ≤ 255 ∧
    (0x3F#8 : Byte) &&& 0xC3#8 = replies.ctl &&& 0xC3#8 ∧
    ∃ t, exec (.edgeRx (envelopeOf replies [] 0x30#8 0xAF#8)) (listening eL) = .next t :=
  ⟨by decide, ⟨rfl, rfl, fun _ => rfl⟩, fits_replies, by decide, by decide, ⟨_, rfl⟩⟩

end Sys2Proof.Tests
end

section
/-! What `FrameBuild` leaves in `FB`, field by field, and O28. -/

namespace Sys2Proof.Machine

theorem exec_frameBuild (ty : FrameType) (drq : Bool) (p : Bytes) (s : State) :
    exec (.frameBuild ty drq p) s = execFrameBuild ty drq p s := rfl

/-- The destination of a build: the linked address of an End Point, the sender's address on a Gateway
(41_frame_build R142, R153). -/
theorem buildDest_eq {s : State} {d : Bytes} (F : FieldsSized s)
    (hd : (s.cfg.role = .ep ∧ d = s.remote) ∨
      (s.cfg.role = .gw ∧ ∃ h q, HoldsFrame s h q ∧ d = h.src)) :
    buildDest s = .next d ∧ d.length = s.cfg.addrW := by
  obtain ⟨hr, rfl⟩ | ⟨hr, h, q, H, rfl⟩ := hd
  · exact ⟨by simp [buildDest, hr], F.rem hr⟩
  · exact ⟨by simp [buildDest, hr, H.readFb_src], H.srcW⟩

/-- A stored byte string reads back part by part. -/
theorem Memory.read_writeBytes_middle (m : Memory) (pre mid post : Bytes) {k : Nat} (hk : k < mid.length) :
    (m.writeBytes 0 (pre ++ mid ++ post)).read (pre.length + k) = mid[k]? := by
  rw [Memory.read_writeBytes, if_pos (by simp only [List.length_append]; omega), Nat.sub_zero,
    List.getElem?_append_left (by simp only [List.length_append]; omega),
    List.getElem?_append_right (by omega), Nat.add_sub_cancel_left]

/-- `FrameBuild` of a frame that fits, once initialised, stores the frame of R149 from byte 0 on. -/
theorem exec_frameBuild_eq {s : State} {d : Bytes} {ty : FrameType} {drq : Bool} {p : Bytes}
    (hi : s.inited = true) (hm : s.cfg.maxFrame ≤ 255) (F : FieldsSized s)
    (hdst : buildDest s = .next d) (hd : d.length = s.cfg.addrW)
    (hfit : p.length + s.cfg.hdrLen ≤ s.cfg.maxFrame) :
    exec (.frameBuild ty drq p) s =
      .next (answering .unit (built s p (s.fb.writeBytes 0 (builtFrame s d ty drq p)))) := by
  have hw : (Instr.frameBuild ty drq p).wellFormed s.cfg = true := decide_eq_true (by omega)
  rw [exec_frameBuild, execFrameBuild, admitOp_of_none (inputRefusal_none_of_both hi rfl) hw,
    buildFrame_eq hdst F.pan F.loc hd hfit]
  rfl

/-- Settles O28: the stored frame is `PANID ++ d ++ LOCAL ++ [ctl] ++ [seq] ++ P`, so each field is one of its parts,
and what lies beyond it is not written. -/
theorem frameBuildStampsEveryField : Obligations.FrameBuildStampsEveryField := by
  intro s ty drq p hi hv F hfit d hdst
  obtain ⟨-, -, -, hm, -⟩ := (Config.valid_iff _).mp hv
  obtain ⟨hdst, hd⟩ := buildDest_eq F hdst
  have hlen := builtFrame_length (ty := ty) (drq := drq) (p := p) F.pan F.loc hd
  have part (pre mid post : Bytes) (e : builtFrame s d ty drq p = pre ++ mid ++ post) (k : Nat)
      (hk : k < mid.length) : (s.fb.writeBytes 0 (builtFrame s d ty drq p)).read (pre.length + k) = mid[k]? :=
    e ▸ Memory.read_writeBytes_middle s.fb pre mid post hk
  refine ⟨s.fb.writeBytes 0 (builtFrame s d ty drq p), exec_frameBuild_eq hi hm F hdst hd hfit,
    ?pan, ?dst, ?src, ?ctl, ?seq, ?payload, ?beyond⟩
  case pan =>
    intro k hk
    simpa using part [] s.panid (d ++ s.localAddr ++ [stampedCtl s.cfg ty drq, s.seq] ++ p)
      (by simp [builtFrame]) k (by rwa [F.pan])
  case dst =>
    intro k hk
    simpa [F.pan] using part s.panid d (s.localAddr ++ [stampedCtl s.cfg ty drq, s.seq] ++ p)
      (by simp [builtFrame]) k (by rwa [hd])
  case src =>
    intro k hk
    simpa [F.pan, hd] using part (s.panid ++ d) s.localAddr ([stampedCtl s.cfg ty drq, s.seq] ++ p)
      (by simp [builtFrame]) k (by rwa [F.loc])
  case ctl =>
    simpa [F.pan, hd, F.loc, two_mul, add_assoc] using
      part (s.panid ++ d ++ s.localAddr) [stampedCtl s.cfg ty drq] ([s.seq] ++ p) (by simp [builtFrame]) 0
        Nat.one_pos
  case seq =>
    simpa [F.pan, hd, F.loc, two_mul, add_assoc] using
      part (s.panid ++ d ++ s.localAddr ++ [stampedCtl s.cfg ty drq]) [s.seq] p (by simp [builtFrame]) 0
        Nat.one_pos
  case payload =>
    intro k hk
    simpa [F.pan, hd, F.loc, Config.hdrLen, two_mul, add_assoc] using
      part (s.panid ++ d ++ s.localAddr ++ [stampedCtl s.cfg ty drq, s.seq]) p [] (by simp [builtFrame]) k hk
  case beyond =>
    intro a ha
    rw [Memory.read_writeBytes, if_neg (by omega)]

end Sys2Proof.Machine
end

section
/-! The reserved control bits (30_encoding R97), O60. Two runs of one reception, whose frames differ in the reserved
bits alone, are kept side by side: at every point their states are equal but for the control byte in `FB`. -/

namespace Sys2Proof.Machine

theorem exec_edgeRx (env : Bytes) (s : State) : exec (.edgeRx env) s = execEdgeRx env s := rfl

/-! ### What the rules read of a control byte -/

theorem ctlType_mask (b : Byte) : ctlType (b &&& 0xC3#8) = ctlType b := by revert b; decide

theorem ctlDrq_mask (b : Byte) : ctlDrq (b &&& 0xC3#8) = ctlDrq b := by revert b; decide

theorem ctlMode_mask (b : Byte) : ctlMode (b &&& 0xC3#8) = ctlMode b := by revert b; decide

/-- A built control byte has its reserved bits clear (30_encoding R95). -/
theorem buildCtl_reserved (c : Config) (ty : FrameType) (drq : Bool) : buildCtl c ty drq &&& 0x3C#8 = 0#8 := by
  unfold buildCtl
  generalize typeCode c ty = t, modeBit c.role = m
  revert t drq m
  decide

/-- The role's filter reads registers, not `FB`, and of the control byte only the type and the mode
(42_frame_validate R166, R167). -/
theorem validateOp_setCtl (s : State) (m : Memory) (h : Header) {b : Byte} (ht : ctlType b = ctlType h.ctl)
    (hm : ctlMode b = ctlMode h.ctl) : validateOp { s with fb := m } { h with ctl := b } = validateOp s h := by
  unfold validateOp
  dsimp only
  cases s.cfg.role with
  | ep =>
    simp only [validateEpOp, classifyCtl, ht, hm]
    rfl
  | gw => simp only [validateGwOp, hm]

theorem classifyCtl_congr (c : Config) {b b' : Byte} (ht : ctlType b = ctlType b') :
    classifyCtl c b = classifyCtl c b' := by simp only [classifyCtl, ht]

/-! ### States that agree but for one byte of `FB` -/

/-- Two byte spaces read the same, but perhaps at `k`. -/
def Memory.AgreeOff (k : Nat) (m m' : Memory) : Prop := ∀ a, a ≠ k → m'.read a = m.read a

/-- Two states are equal, but perhaps for byte `k` of `FB`. -/
def AgreeOff (k : Nat) (s u : State) : Prop := ∃ m, u = { s with fb := m } ∧ s.fb.AgreeOff k m

/-- Two outcomes are both a next state, and these agree off `k`. -/
def RunAlike (k : Nat) (o o' : Res) : Prop := ∃ t u, o = .next t ∧ o' = .next u ∧ AgreeOff k t u

theorem Memory.AgreeOff.writeBytes {k : Nat} {m m' : Memory} (A : m.AgreeOff k m') {off : Nat} {bs bs' : Bytes}
    (hl : bs'.length = bs.length) (hb : ∀ i, off + i ≠ k → bs'[i]? = bs[i]?) :
    (m.writeBytes off bs).AgreeOff k (m'.writeBytes off bs') := by
  intro a ha
  rw [Memory.read_writeBytes, Memory.read_writeBytes, hl]
  split
  · exact hb _ (by omega)
  · exact A a ha

section Agree

variable {k : Nat} {s u : State}

theorem AgreeOff.runAlike (A : AgreeOff k s u) : RunAlike k (.next s) (.next u) := ⟨s, u, rfl, rfl, A⟩

theorem AgreeOff.refl (k : Nat) (s : State) : AgreeOff k s s := ⟨s.fb, rfl, fun _ _ => rfl⟩

theorem AgreeOff.cfg (A : AgreeOff k s u) : u.cfg = s.cfg := by obtain ⟨_, rfl, _⟩ := A; rfl

theorem AgreeOff.phyAccept (A : AgreeOff k s u) : u.phyAccept = s.phyAccept := by obtain ⟨_, rfl, _⟩ := A; rfl

theorem AgreeOff.lrcb (A : AgreeOff k s u) : u.lrcb = s.lrcb := by obtain ⟨_, rfl, _⟩ := A; rfl

theorem AgreeOff.lrAccept (A : AgreeOff k s u) : u.lrAccept = s.lrAccept := by obtain ⟨_, rfl, _⟩ := A; rfl

theorem AgreeOff.drspLen (A : AgreeOff k s u) : u.drspLen = s.drspLen := by obtain ⟨_, rfl, _⟩ := A; rfl

/-- The staged reply is read from host memory, not from `FB`. -/
theorem AgreeOff.memRead (A : AgreeOff k s u) :
    memRead u u.drspPtr u.drspLen.toNat = memRead s s.drspPtr s.drspLen.toNat := by
  obtain ⟨_, rfl, _⟩ := A; rfl

/-- An operation on the other registers keeps the agreement. -/
theorem AgreeOff.map (A : AgreeOff k s u) {f : State → State}
    (hf : ∀ s m, f { s with fb := m } = { f s with fb := m }) (hfb : (f s).fb = s.fb) : AgreeOff k (f s) (f u) := by
  obtain ⟨m, rfl, hm⟩ := A
  exact ⟨m, hf s m, hfb ▸ hm⟩

theorem AgreeOff.idled (A : AgreeOff k s u) : AgreeOff k (idled s) (idled u) := by
  obtain ⟨m, rfl, hm⟩ := A
  unfold Machine.idled
  dsimp only
  cases s.cfg.role
  case ep => exact ⟨m, rfl, hm⟩
  case gw => exact ⟨[], rfl, fun _ _ => rfl⟩

theorem AgreeOff.linked (A : AgreeOff k s u) (p r : Bytes) : AgreeOff k (linked p r s) (linked p r u) := by
  refine A.map (fun s m => ?_) (linked_fb p r s)
  unfold Machine.linked persisted
  cases s.fixed <;> cases s.hook <;> rfl

theorem AgreeOff.answered (A : AgreeOff k s u) (b : Bytes) : AgreeOff k (answered s b) (answered u b) := by
  refine A.map (f := fun s => Machine.answered s b) (fun s m => ?_) (answered_fb s b)
  unfold Machine.answered
  cases s.phyAccept <;> rfl

/-- A build for one destination stores the same frame. -/
theorem AgreeOff.built (A : AgreeOff k s u) (d : Bytes) (ty : FrameType) (q : Bytes) :
    AgreeOff k (built s q (s.fb.writeBytes 0 (builtFrame s d ty false q)))
      (built u q (u.fb.writeBytes 0 (builtFrame u d ty false q))) := by
  obtain ⟨m, rfl, hm⟩ := A
  exact ⟨_, rfl, hm.writeBytes rfl fun _ _ => rfl⟩

theorem AgreeOff.builtFrame (A : AgreeOff k s u) (d : Bytes) (ty : FrameType) (q : Bytes) :
    builtFrame u d ty false q = builtFrame s d ty false q := by
  obtain ⟨_, rfl, _⟩ := A; rfl

end Agree

/-! ### Two frames that differ in the control byte -/

/-- `s` and `u` hold the same frame but for the control byte, `b` in `u`, and agree in everything else. -/
structure TwinFrames (s u : State) (h : Header) (b : Byte) (p : Bytes) : Prop where
  agree : AgreeOff s.cfg.offCtl s u
  left : HoldsFrame s h p
  right : HoldsFrame u { h with ctl := b } p

/-- What a node needs to send from dispatch: a valid configuration, sized registers, and nothing in flight. -/
structure CanSend (s : State) : Prop where
  valid : s.cfg.valid = true
  sized : FieldsSized s
  free : s.busy = false

theorem CanSend.of_eq {s t : State} (G : CanSend s) (hc : t.cfg = s.cfg) (hp : t.panid = s.panid)
    (hl : t.localAddr = s.localAddr) (hr : t.remote = s.remote) (hb : t.busy = s.busy) : CanSend t := by
  obtain ⟨hv, ⟨hpan, hloc, hrem⟩, hfree⟩ := G
  refine ⟨?_, ⟨?_, ?_, ?_⟩, ?_⟩ <;> simpa only [hc, hp, hl, hr, hb]

theorem CanSend.congr {k : Nat} {s u : State} (G : CanSend s) (A : AgreeOff k s u) : CanSend u := by
  obtain ⟨_, rfl, _⟩ := A
  exact G.of_eq rfl rfl rfl rfl rfl

/-- A Gateway's state once a staged reply has been taken, before it is sent (43_scheduler_fsm R194, R195). -/
def replyTaken (p : Bytes) (s : State) : State :=
  { s with
    radio := .active, drspLen := 0#8, freeCtr := s.freeCtr + 1,
    out := s.out ++ [.cbFrameCompleteGw true p s.len, .phyActive] }

section Twins

variable {s u : State} {h : Header} {b : Byte} {p : Bytes}

/-- Storing control bytes into twin frames keeps them twins. -/
theorem TwinFrames.setCtl (T : TwinFrames s u h b p) (c c' : Byte) :
    TwinFrames { s with fb := s.fb.writeBytes s.cfg.offCtl [c] }
      { u with fb := u.fb.writeBytes u.cfg.offCtl [c'] } { h with ctl := c } c' p := by
  refine ⟨?_, T.left.setCtl c, T.right.setCtl c'⟩
  obtain ⟨m, rfl, hm⟩ := T.agree
  refine ⟨_, rfl, hm.writeBytes rfl fun i hi => ?_⟩
  cases i with
  | zero => exact absurd rfl hi
  | succ i => rfl

/-- An operation on other registers than the buffer's keeps twin frames. -/
theorem TwinFrames.map (T : TwinFrames s u h b p) {f : State → State}
    (hf : ∀ s m, f { s with fb := m } = { f s with fb := m })
    (hfb : ∀ s, (f s).cfg = s.cfg ∧ (f s).fb = s.fb ∧ (f s).fbtag = s.fbtag ∧ (f s).len = s.len) :
    TwinFrames (f s) (f u) h b p := by
  obtain ⟨hc, hb, ht, hl⟩ := hfb s
  obtain ⟨hc', hb', ht', hl'⟩ := hfb u
  exact ⟨hc ▸ T.agree.map hf hb, T.left.congr hc hb ht hl, T.right.congr hc' hb' ht' hl'⟩

/-- A send from dispatch goes alike: it reads the source address of the frame and writes the same bytes. -/
theorem TwinFrames.sendOrIdle_alike (T : TwinFrames s u h b p) (hr : s.cfg.role = .gw) (G : CanSend s) (ty : FrameType)
    (q : Bytes) : RunAlike s.cfg.offCtl (sendOrIdle ty q s) (sendOrIdle ty q u) := by
  have A := T.agree
  have G' := G.congr A
  have hr' : u.cfg.role = .gw := A.cfg ▸ hr
  by_cases hfit : q.length + s.cfg.hdrLen ≤ s.cfg.maxFrame
  · rw [sendOrIdle_eq T.left hr G.valid G.sized G.free hfit,
      sendOrIdle_eq T.right hr' G'.valid G'.sized G'.free (A.cfg.symm ▸ hfit), A.phyAccept]
    have B := (A.built h.src ty q).answered (Machine.builtFrame s h.src ty false q)
    rw [← A.builtFrame h.src ty q] at B ⊢
    split
    · exact B.runAlike
    · exact B.idled.runAlike
  · have hlong : s.cfg.maxFrame < q.length + s.cfg.hdrLen := by omega
    unfold sendOrIdle
    rw [sendFrame_tooLong G.free hlong, sendFrame_tooLong G'.free (A.cfg.symm ▸ hlong)]
    simp only [bindOutcome_next, idlePolicy_eq]
    exact (A.map (f := failWith .capacity) (fun _ _ => rfl) rfl).idled.runAlike

/-- Data is delivered alike, with or without an answer (43_scheduler_fsm R194, R195). -/
theorem TwinFrames.dispatchData_alike (T : TwinFrames s u h b p) (hd : ctlDrq b = ctlDrq h.ctl) (G : CanSend s) :
    RunAlike s.cfg.offCtl (dispatchDataOp s) (dispatchDataOp u) := by
  have A := T.agree
  have T' := T.setCtl (h.ctl &&& 0xFD#8) (b &&& 0xFD#8)
  have hd : b.getLsbD 1 = h.ctl.getLsbD 1 := hd
  cases hr : s.cfg.role with
  | ep =>
    rw [dispatchDataOp_ep T.left hr, dispatchDataOp_ep T.right (A.cfg ▸ hr)]
    exact (T'.agree.map (f := fun x => emit (.cbFrameCompleteEp p x.len) x) (fun _ _ => rfl) rfl).idled.runAlike
  | gw =>
    have hr' : u.cfg.role = .gw := A.cfg ▸ hr
    by_cases hn : h.ctl.getLsbD 1 = false ∨ s.drspLen = 0#8
    · rw [dispatchDataOp_gw T.left hr hn, dispatchDataOp_gw T.right hr' (by rwa [hd, A.drspLen]), hd]
      exact (A.map (f := fun x => emit (.cbFrameCompleteGw (h.ctl.getLsbD 1) p x.len) x) (fun _ _ => rfl)
        rfl).idled.runAlike
    · obtain ⟨hq, h0⟩ := not_or.mp hn
      have hq : h.ctl.getLsbD 1 = true := by simpa using hq
      rw [dispatchDataOp_asked T.left hr hq h0, dispatchDataOp_asked T.right hr' (hd.trans hq) (by rwa [A.drspLen]),
        A.memRead]
      exact (T'.map (f := replyTaken p) (fun _ _ => rfl) fun _ => ⟨rfl, rfl, rfl, rfl⟩).sendOrIdle_alike hr
        (G.of_eq rfl rfl rfl rfl rfl) .data _

/-- A decided answer to a link request goes alike (43_scheduler_fsm R197). -/
theorem TwinFrames.answerLink_alike (T : TwinFrames s u h b p) (hr : s.cfg.role = .gw) (G : CanSend s) (acc : Bool) :
    RunAlike s.cfg.offCtl (answerLink acc s) (answerLink acc u) := by
  unfold answerLink
  simp only [idlePolicy_eq]
  cases acc with
  | false => exact T.agree.idled.runAlike
  | true =>
    exact (T.map (f := phyActive) (fun _ _ => rfl) fun _ => ⟨rfl, rfl, rfl, rfl⟩).sendOrIdle_alike hr
      (G.of_eq rfl rfl rfl rfl rfl) .linkReq []

/-- `DispatchLinkRequest` on a Gateway: the callback where it is connected, then the answer. -/
theorem dispatchLinkOp_gw (H : HoldsFrame s h p) (hr : s.cfg.role = .gw) :
    dispatchLinkOp s =
      if s.lrcb then answerLink s.lrAccept (emit (.cbLinkRequest h.pan h.src p s.len) s) else answerLink true s := by
  unfold dispatchLinkOp
  rw [H.readHeader_eq, bindOutcome_next]
  simp only [hr, H.readPayload_eq, bindOutcome_next]

/-- A link request is dispatched alike (43_scheduler_fsm R196, R197). -/
theorem TwinFrames.dispatchLink_alike (T : TwinFrames s u h b p) (G : CanSend s) :
    RunAlike s.cfg.offCtl (dispatchLinkOp s) (dispatchLinkOp u) := by
  have A := T.agree
  cases hr : s.cfg.role with
  | ep =>
    rw [dispatchLinkOp_ep T.left hr, dispatchLinkOp_ep T.right (A.cfg ▸ hr)]
    exact (A.linked h.pan h.src).idled.runAlike
  | gw =>
    rw [dispatchLinkOp_gw T.left hr, dispatchLinkOp_gw T.right (A.cfg ▸ hr), A.lrcb, A.lrAccept]
    split
    · exact (T.map (f := fun x => emit (.cbLinkRequest h.pan h.src p x.len) x) (fun _ _ => rfl)
        fun _ => ⟨rfl, rfl, rfl, rfl⟩).answerLink_alike hr (G.of_eq rfl rfl rfl rfl rfl) _
    · exact T.answerLink_alike hr G true

/-- A rejection goes alike. -/
theorem rejected_alike {k : Nat} (A : AgreeOff k s u) (c : RejectCause) :
    RunAlike k (.next (idled { s with cause := some (.reject c) }))
      (.next (idled { u with cause := some (.reject c) })) :=
  (A.map (f := failWith (.reject c)) (fun _ _ => rfl) rfl).idled.runAlike

/-- The filter and the dispatch treat twin frames alike where their types, modes and data requests are the same. -/
theorem TwinFrames.processFrame_alike (T : TwinFrames s u h b p) (ht : ctlType b = ctlType h.ctl)
    (hd : ctlDrq b = ctlDrq h.ctl) (hm : ctlMode b = ctlMode h.ctl) (G : CanSend s) :
    RunAlike s.cfg.offCtl (processFrame s) (processFrame u) := by
  have hv : validateOp u { h with ctl := b } = validateOp s h := by
    obtain ⟨m, rfl, -⟩ := T.agree
    exact validateOp_setCtl s m h ht hm
  have hc : classifyCtl u.cfg b = classifyCtl s.cfg h.ctl := T.agree.cfg ▸ classifyCtl_congr u.cfg ht
  rw [processFrame_eq T.left, processFrame_eq T.right, hv, hc]
  cases validateOp s h with
  | some c => exact rejected_alike T.agree c
  | none =>
    cases classifyCtl s.cfg h.ctl with
    | data => exact T.dispatchData_alike hd G
    | linkReq => exact T.dispatchLink_alike G
    | reserved => exact rejected_alike T.agree .rType

end Twins

/-! ### Reception -/

/-- Frames with the same header but for the control byte are the same bytes elsewhere. -/
theorem frameBytes_setCtl {c : Config} {h : Header} (hf : h.Fits c) (b : Byte) (p : Bytes) :
    headerBytes { h with ctl := b } ++ p = (headerBytes h ++ p).set c.offCtl b := by
  have hpre : (h.pan ++ h.dst ++ h.src).length = c.offCtl := by
    simp only [List.length_append, hf.pan, hf.dst, hf.src, Config.offCtl]; omega
  have e (x : Byte) : headerBytes { h with ctl := x } ++ p = (h.pan ++ h.dst ++ h.src) ++ (x :: h.seq :: p) := by
    simp [headerBytes]
  rw [e b, show headerBytes h ++ p = _ from e h.ctl, ← hpre, List.set_append_right _ _ (Nat.le_refl _), Nat.sub_self,
    List.set_cons_zero]

/-- The two receptions of one envelope but for the control byte leave twin frames. -/
theorem twinFrames_received {s : State} {h : Header} {b : Byte} {p : Bytes} {rssi lq : Byte}
    (hv : s.cfg.valid = true) (hf : h.Fits s.cfg) (hfit : s.cfg.hdrLen + p.length ≤ s.cfg.maxFrame) :
    TwinFrames
      (received s (s.cfg.hdrLen + p.length) rssi lq (s.fb.writeBytes 0 (headerBytes h ++ p)))
      (received s (s.cfg.hdrLen + p.length) rssi lq (s.fb.writeBytes 0 (headerBytes { h with ctl := b } ++ p)))
      h b p := by
  have hf' : Header.Fits { h with ctl := b } s.cfg := ⟨hf.pan, hf.dst, hf.src⟩
  refine ⟨⟨_, rfl, ?_⟩, holdsFrame_received hv hf hfit, holdsFrame_received hv hf' hfit⟩
  rw [frameBytes_setCtl hf b p]
  refine Memory.AgreeOff.writeBytes (fun _ _ => rfl) (by simp) fun i hi => ?_
  rw [Nat.zero_add] at hi
  exact List.getElem?_set_ne (Ne.symm hi)

theorem rxCheckOp_tooLong {c : Config} {n : Nat} {crcOk : Bool} (hlong : c.maxFrame < n) :
    rxCheckOp c n crcOk = some .rLength := by
  rw [rxCheckOp, if_pos hlong, ite_self]

/-- `EDGE_RX` of a frame longer than `FB`: nothing is stored, and the length check rejects it. -/
theorem receiveDone_tooLong {s : State} {h : Header} {p : Bytes} {rssi lq : Byte} (hst : s.st = .listening)
    (hn : (headerBytes h ++ p).length ≤ 255) (hlong : s.cfg.maxFrame < (headerBytes h ++ p).length) :
    receiveDone (envelopeOf h p rssi lq) s =
      .next (idled { received s (headerBytes h ++ p).length rssi lq s.fb with cause := some (.reject .rLength) }) := by
  unfold receiveDone
  rw [if_neg (not_not_intro hst), parseEnvelope_envelopeOf hn]
  simp only [receive_eq, if_neg (Nat.not_le.mpr hlong), checkFrame]
  rw [rxCheckOp_tooLong (by exact hlong)]
  simp only [rejectFrame, failWith, idlePolicy_eq]

/-- Two receptions whose control bytes differ in the reserved bits alone go alike. -/
theorem receiveDone_alike {s : State} {h : Header} {b : Byte} {p : Bytes} {rssi lq : Byte} (hst : s.st = .listening)
    (hv : s.cfg.valid = true) (F : FieldsSized s) (hf : h.Fits s.cfg) (hn : (headerBytes h ++ p).length ≤ 255)
    (hb : b &&& 0xC3#8 = h.ctl &&& 0xC3#8) :
    RunAlike s.cfg.offCtl (receiveDone (envelopeOf h p rssi lq) s)
      (receiveDone (envelopeOf { h with ctl := b } p rssi lq) s) := by
  have hf' : Header.Fits { h with ctl := b } s.cfg := ⟨hf.pan, hf.dst, hf.src⟩
  have ht : ctlType b = ctlType h.ctl := by rw [← ctlType_mask, hb, ctlType_mask]
  have hd : ctlDrq b = ctlDrq h.ctl := by rw [← ctlDrq_mask, hb, ctlDrq_mask]
  have hm : ctlMode b = ctlMode h.ctl := by rw [← ctlMode_mask, hb, ctlMode_mask]
  have hl : (headerBytes h ++ p).length = s.cfg.hdrLen + p.length := by
    rw [List.length_append, headerBytes_length hf]
  have hl' : (headerBytes { h with ctl := b } ++ p).length = (headerBytes h ++ p).length := by
    rw [frameBytes_setCtl hf b p, List.length_set]
  by_cases hfit : s.cfg.hdrLen + p.length ≤ s.cfg.maxFrame
  · have T := twinFrames_received (b := b) (rssi := rssi) (lq := lq) hv hf hfit
    rw [receiveDone_envelopeOf hst hv hf hfit, receiveDone_envelopeOf hst hv hf' hfit]
    split
    · exact T.processFrame_alike ht hd hm ⟨hv, ⟨F.pan, F.loc, F.rem⟩, rfl⟩
    · exact rejected_alike T.agree .rCrc
  · rw [receiveDone_tooLong hst hn (by omega), receiveDone_tooLong hst (by omega) (by omega), hl']
    exact (AgreeOff.refl _ _).runAlike

/-- A reception that goes on had a receive armed. -/
theorem receiveDone_listening {env : Bytes} {s t : State} (h : receiveDone env s = .next t) : s.st = .listening := by
  unfold receiveDone at h
  split at h
  · cases h
  next hst => exact not_not.mp hst

/-- Settles O60: the two receptions run alike, and so do their ends. -/
theorem reservedBitsHaveNoEffect : Obligations.ReservedBitsHaveNoEffect := by
  refine ⟨buildCtl_reserved, fun s t h b p rssi lq hv F hf hn hb ht => ?_⟩
  rw [exec_edgeRx, execEdgeRx, admitOp_eq_next, bindOutcome_eq_next] at ht
  obtain ⟨hadm, -, r, hr, ht⟩ := ht
  obtain ⟨r', v, hr', hv', ⟨m, rfl, hm⟩⟩ :=
    receiveDone_alike (rssi := rssi) (lq := lq) (receiveDone_listening hr) hv F hf hn hb
  obtain rfl : r' = r := by simpa [hr] using hr'.symm
  obtain rfl : returned (Config.edgeStatus r'.freeCtr) r' = t := by simpa [retStatus_eq] using ht
  refine ⟨returned (Config.edgeStatus r'.freeCtr) { r' with fb := m }, ?_, rfl, hm⟩
  rw [exec_edgeRx, execEdgeRx, admitOp_of_none hadm rfl, hv']
  rfl

end Sys2Proof.Machine
end

section
/-! The queries of the Addressing Registry that read addresses and write no register: `ISBCAST` (O12), and the link
queries `LINKEXISTS` and `GETLINK` (O13). -/

namespace Sys2Proof.Machine

/-! ### `ISBCAST` -/

theorem exec_isbcast (a : Bytes) (s : State) : exec (.isbcast a) s = execIsbcast a s := rfl

/-- An operation of both roles that may come before `INIT` is admitted in every state (60_exceptions R277). -/
theorem inputRefusal_none_of_beforeInit {code : Byte} (s : State) (hb : beforeInit code = true)
    (hr : onlyRole code = none) : inputRefusal s code = none := by simp [inputRefusal, hb, hr]

/-- The broadcast test is the rule's, position by position. -/
theorem isBcast_iff_getElem? (c : Config) (a : Bytes) :
    isBcast c a = true ↔ ∀ i, i < a.length → a[i]? = some c.bcast := by
  simp only [isBcast, List.all_eq_true, beq_iff_eq, List.forall_mem_iff_getElem]
  refine forall₂_congr fun i hi => ?_
  rw [List.getElem?_eq_getElem hi, Option.some_inj]

/-- A counted operand reads back under its own length byte (30_encoding R105). -/
theorem decodeCounted_ofNat_length (code : Byte) (k : Bytes → Instr) {a : Bytes} (h : a.length ≤ 255) :
    decodeCounted code k (BitVec.ofNat 8 a.length :: a) = .ok (k a) := by
  have hw : a.length = (BitVec.ofNat 8 a.length).toNat := by rw [BitVec.toNat_ofNat]; omega
  exact if_pos hw

/-- `ISBCAST` of at least one byte answers the broadcast test. -/
theorem exec_isbcast_eq (s : State) {a : Bytes} (h : 1 ≤ a.length) :
    exec (.isbcast a) s = .next { s with result := some (.bool (isBcast s.cfg a)) } := by
  have hwf : (Instr.isbcast a).wellFormed s.cfg = true := decide_eq_true h
  rw [exec_isbcast, execIsbcast, admitOp_of_none (inputRefusal_none_of_beforeInit s rfl rfl) hwf, ret]

/-- Settles O12: the boolean is `isBcast`, read position by position. -/
theorem isBroadcastTestsEveryByte : Obligations.IsBroadcastTestsEveryByte := fun s a h =>
  ⟨⟨isBcast s.cfg a, isBcast_iff_getElem? s.cfg a, exec_isbcast_eq s h⟩, decodeCounted_ofNat_length 0x01#8 .isbcast⟩

/-! ### `LINKEXISTS` and `GETLINK` -/

theorem exec_linkexists (s : State) : exec .linkexists s = execLinkexists s := rfl

theorem exec_getlink (s : State) : exec .getlink s = execGetlink s := rfl

/-- Both link queries are one meaning, under a code that only an End Point has and only after `INIT`
(40_addressing_registry R122, 45_facade_and_status R249). -/
theorem exec_linkQuery (s : State) {i : Instr} (h : i = .linkexists ∨ i = .getlink) :
    ∃ code, beforeInit code = false ∧ onlyRole code = some .ep ∧ i.wellFormed s.cfg = true ∧
      exec i s = admitOp code i s (ret (.bool (linkExists s)) s) := by
  obtain rfl | rfl := h
  · exact ⟨0x02#8, rfl, rfl, rfl, exec_linkexists s⟩
  · exact ⟨0x21#8, rfl, rfl, rfl, exec_getlink s⟩

/-- A link exists where not every byte of `REMOTE` is the broadcast byte. -/
theorem linkExists_iff_not_forall (s : State) : linkExists s = true ↔ ¬ ∀ b ∈ s.remote, b = s.cfg.bcast :=
  (linkExists_iff s).trans (by simp [LinkUp])

/-- Settles O13: the shared meaning of the two queries, admitted, on the wrong role and before `INIT`. -/
theorem linkQueriesReadRemote : Obligations.LinkQueriesReadRemote := by
  intro s i h
  obtain ⟨code, hpre, hrole, hwf, hexec⟩ := exec_linkQuery s h
  refine ⟨rfl, rfl, fun hi hr => ⟨linkExists s, linkExists_iff_not_forall s, ?admitted⟩, fun hi hr => ?wrongRole,
    fun hi => ?preinit⟩
  case admitted => rw [hexec, admitOp_of_none (inputRefusal_none_of_role hi (hr ▸ hrole)) hwf, ret]
  case wrongRole => rw [hexec, admitOp_of_some (inputRefusal_wrongRole hi hrole (by rw [hr]; decide))]
  case preinit => rw [hexec, admitOp_of_some (inputRefusal_preinit hi hpre)]

end Sys2Proof.Machine
end

section
/-! `Classify` (O31) and the filters of a received frame: the Gateway's, case by case (O33), and what the two filters
read (O34). Each is one read of `FB` and then a function of what was read and of registers. -/

namespace Sys2Proof.Machine

/-! ### `Classify` -/

theorem exec_classify (s : State) : exec .classify s = execClassify s := rfl

/-- The type bits are the control byte's two high bits as a number (30_encoding R96). -/
theorem ctlType_toNat (b : Byte) : (ctlType b).toNat = b.toNat / 64 := by revert b; decide

/-- The class, by the number in bits 7:6. -/
theorem classifyCtl_eq_div (c : Config) (b : Byte) :
    classifyCtl c b =
      if b.toNat / 64 = 0 then .data else if b.toNat / 64 = c.linkreqCode.toNat then .linkReq else .reserved := by
  simp only [classifyCtl, ← BitVec.toNat_inj, ctlType_toNat, BitVec.toNat_ofNat, Nat.zero_mod]

/-- One byte of a defined frame reads as the value it has. -/
theorem readFbByte_of_read {s : State} {off : Nat} {b : Byte} (hd : frameDefined s = true)
    (hoff : off < s.cfg.maxFrame) (hb : s.fb.read off = some b) : readFbByte s off = .next b := by
  have hbytes : s.fb.readBytes off 1 = some [b] := by simp [Memory.readBytes, hb]
  rw [readFbByte, readFb_eq_next.mpr ⟨hd, hoff, hbytes⟩]
  rfl

/-- In a BLMAC the control byte lies inside `FB`. -/
theorem Config.offCtl_lt_maxFrame {c : Config} (hv : c.valid = true) : c.offCtl < c.maxFrame := by
  obtain ⟨_, _, hfits, _⟩ := (Config.valid_iff c).mp hv
  have := offsets_eq c
  omega

/-- Settles O31: the control byte is read, and its class is that of the number in bits 7:6. -/
theorem classifyReadsTypeBits : Obligations.ClassifyReadsTypeBits := by
  intro s b hi hv htag hb
  have hd : frameDefined s = true := by simpa [frameDefined] using htag
  have hread : readFbByte s s.cfg.offCtl = .next b := readFbByte_of_read hd (Config.offCtl_lt_maxFrame hv) hb
  refine ⟨rfl, ?_⟩
  rw [exec_classify, execClassify, admitOp_of_none (inputRefusal_none_of_both hi rfl) rfl, hread, bindOutcome_next, ret,
    classifyCtl_eq_div]

/-! ### The filters as operations -/

theorem exec_validateEp (s : State) : exec .validateEp s = execValidateEp s := rfl

theorem exec_validateGw (s : State) : exec .validateGw s = execValidateGw s := rfl

/-- Both filters are one meaning: on its own role each answers the role's verdict on the header in `FB`, and writes
nothing else (42_frame_validate R164, R166, R167). -/
theorem HoldsFrame.exec_filter {s : State} {h : Header} {p : Bytes} (H : HoldsFrame s h p) (hi : s.inited = true)
    {i : Instr} (hf : (s.cfg.role = .ep ∧ i = .validateEp) ∨ (s.cfg.role = .gw ∧ i = .validateGw)) :
    exec i s = .next { s with result := some (.verdict (validateOp s h)) } := by
  obtain ⟨hr, rfl⟩ | ⟨hr, rfl⟩ := hf
  · rw [exec_validateEp, execValidateEp, admitOp_of_none (inputRefusal_none_of_role hi (hr ▸ rfl)) rfl, H.readHeader_eq,
      bindOutcome_next, ret, validateOp, hr]
  · rw [exec_validateGw, execValidateGw, admitOp_of_none (inputRefusal_none_of_role hi (hr ▸ rfl)) rfl, H.readHeader_eq,
      bindOutcome_next, ret, validateOp, hr]

/-! ### The Gateway's filter -/

theorem isBcast_iff_forall (c : Config) (a : Bytes) : isBcast c a = true ↔ ∀ b ∈ a, b = c.bcast := by simp [isBcast]

theorem isBcast_false_iff_exists (c : Config) (a : Bytes) : isBcast c a = false ↔ ∃ b ∈ a, b ≠ c.bcast := by
  simp [isBcast]

section Gateway

variable {s : State} {h : Header}

theorem validateGwOp_rMode (hm : ctlMode h.ctl = true) : validateGwOp s h = some .rMode := if_pos hm

theorem validateGwOp_rDest (hm : ctlMode h.ctl = false) (hd : h.dst ≠ s.localAddr) (hb : isBcast s.cfg h.dst = false) :
    validateGwOp s h = some .rDest := by simp [validateGwOp, hm, hd, hb]

/-- Past the mode and the destination the PAN id alone decides, whatever the frame's type. -/
theorem validateGwOp_of_dest (hm : ctlMode h.ctl = false) (hd : h.dst = s.localAddr ∨ isBcast s.cfg h.dst = true) :
    validateGwOp s h = if h.pan ≠ s.panid ∧ isBcast s.cfg h.pan = false then some .rPan else none := by
  have hdest : ¬ (h.dst ≠ s.localAddr ∧ isBcast s.cfg h.dst = false) := by
    rintro ⟨hne, hb⟩
    exact hd.elim hne (by simp [hb])
  rw [validateGwOp, if_neg (by simp [hm]), if_neg hdest]

end Gateway

/-- Settles O33: the tests in the order of the pseudocode, mode, destination, PAN id. -/
theorem gatewayFilter : Obligations.GatewayFilter := by
  intro s h p hi hr H
  have hv : validateOp s h = validateGwOp s h := by rw [validateOp, hr]
  refine ⟨rfl, validateGwOp s h, hv ▸ H.exec_filter hi (.inr ⟨hr, rfl⟩), validateGwOp_rMode,
    fun hm hne hb => validateGwOp_rDest hm hne ((isBcast_false_iff_exists ..).mpr hb), fun hm hd => ?_⟩
  rw [validateGwOp_of_dest hm (hd.imp_right (isBcast_iff_forall ..).mpr)]
  refine ⟨fun hne hb => if_pos ⟨hne, (isBcast_false_iff_exists ..).mpr hb⟩, fun hpan => if_neg ?_⟩
  rintro ⟨hne, hb⟩
  exact hpan.elim hne fun hall => by simp [(isBcast_iff_forall ..).mpr hall] at hb

/-! ### What the filters read -/

theorem ctlType_filterMask (b : Byte) : ctlType (b &&& 0xC1#8) = ctlType b := by revert b; decide

theorem ctlMode_filterMask (b : Byte) : ctlMode (b &&& 0xC1#8) = ctlMode b := by revert b; decide

/-- The verdict is a function of the registry and of the PAN id, the destination, the type and the mode of the frame
(42_frame_validate R164). -/
theorem validateOp_congr {s s' : State} {h h' : Header} (hcfg : s'.cfg = s.cfg) (hpanid : s'.panid = s.panid)
    (hloc : s'.localAddr = s.localAddr) (hrem : s'.remote = s.remote) (hfix : s'.fixed = s.fixed)
    (hpan : h'.pan = h.pan) (hdst : h'.dst = h.dst) (htype : ctlType h'.ctl = ctlType h.ctl)
    (hmode : ctlMode h'.ctl = ctlMode h.ctl) : validateOp s' h' = validateOp s h := by
  have hlink : linkExists s' = linkExists s := by rw [linkExists, linkExists, hcfg, hrem]
  have hclass : classifyCtl s.cfg h'.ctl = classifyCtl s.cfg h.ctl := classifyCtl_congr s.cfg htype
  have hep : validateEpOp s' h' = validateEpOp s h := by
    simp only [validateEpOp, hcfg, hpanid, hloc, hfix, hpan, hdst, hmode, hlink, hclass]
  have hgw : validateGwOp s' h' = validateGwOp s h := by
    simp only [validateGwOp, hcfg, hpanid, hloc, hpan, hdst, hmode]
  rw [validateOp, validateOp, hcfg, hep, hgw]

/-- Settles O34: equal masked control bytes have one type and one mode, so the two runs have one verdict. -/
theorem filtersReadOnlyTheirInputs : Obligations.FiltersReadOnlyTheirInputs := by
  intro s s' h h' p p' hi hi' H H' hcfg hpan hdst hctl hpanid hloc hrem hfix i hf
  have htype : ctlType h'.ctl = ctlType h.ctl := by rw [← ctlType_filterMask, hctl, ctlType_filterMask]
  have hmode : ctlMode h'.ctl = ctlMode h.ctl := by rw [← ctlMode_filterMask, hctl, ctlMode_filterMask]
  have hverdict : validateOp s' h' = validateOp s h :=
    validateOp_congr hcfg hpanid hloc hrem hfix hpan hdst htype hmode
  refine ⟨validateOp s h, H.exec_filter hi hf, ?_⟩
  rw [← hverdict]
  exact H'.exec_filter hi' (hcfg.symm ▸ hf)

end Sys2Proof.Machine
end

section
/-! The `BUSY` queries of the Scheduler FSM and of the facade (43_scheduler_fsm R186, 45_facade_and_status R247), O26. -/

namespace Sys2Proof.Machine

theorem exec_busy (s : State) : exec .busy s = execBusy s := rfl

theorem exec_fBusy (s : State) : exec .fBusy s = execFBusy s := rfl

/-- Both queries are one meaning, under a code of both roles. -/
theorem exec_busyQuery (s : State) {i : Instr} (h : i = .busy ∨ i = .fBusy) :
    ∃ code, onlyRole code = none ∧ i.wellFormed s.cfg = true ∧ exec i s = admitOp code i s (ret (.bool s.busy) s) := by
  obtain rfl | rfl := h
  · exact ⟨0x13#8, rfl, rfl, exec_busy s⟩
  · exact ⟨0x46#8, rfl, rfl, exec_fBusy s⟩

/-- Settles O26: the shared meaning of the two queries, admitted; between steps the flag is what (I1) says. -/
theorem busyQueryReadsFlag : Obligations.BusyQueryReadsFlag := by
  intro s i h hi
  obtain ⟨code, hrole, hwf, hexec⟩ := exec_busyQuery s h
  refine ⟨rfl, ?completes, fun hinv => (hinv.working hi).i1⟩
  case completes => rw [hexec, admitOp_of_none (inputRefusal_none_of_both hi hrole) hwf, ret]

end Sys2Proof.Machine
end

section
/-! The sends that fail before anything is built (60_exceptions R271, R272), O19 and O20. Each command that sends is
admitted and then runs `Send`, so one lemma carries the failure of `Send` to all of them. -/

namespace Sys2Proof.Machine

theorem exec_listen (s : State) : exec .listen s = execListen s := rfl

theorem exec_send (ty : FrameType) (drq : Bool) (p : Bytes) (s : State) :
    exec (.send ty drq p) s = execSend ty drq p s := rfl

theorem exec_uSend (ty : FrameType) (drq : Bool) (p : Bytes) (s : State) :
    exec (.uSend ty drq p) s = execUSend ty drq p s := rfl

theorem exec_simpletransfer (p : Bytes) (s : State) : exec (.simpletransfer p) s = execSimpletransfer p s := rfl

theorem exec_transfer (p : Bytes) (s : State) : exec (.transfer p) s = execTransfer p s := rfl

theorem exec_connect (p : Bytes) (s : State) : exec (.connect p) s = execConnect p s := rfl

theorem exec_dispatchData (s : State) : exec .dispatchData s = execDispatchData s := rfl

/-! ### The commands that send, once admitted -/

section Admitted

variable {s : State} {p : Bytes}

theorem exec_send_eq (ty : FrameType) (drq : Bool) (hi : s.inited = true) (hp : p.length ≤ 255) :
    exec (.send ty drq p) s = sendResult ty drq p s := by
  rw [exec_send, execSend]
  exact admitOp_of_none (inputRefusal_none_of_both hi rfl) (decide_eq_true hp)

theorem exec_uSend_eq (ty : FrameType) (drq : Bool) (hi : s.inited = true) (hp : p.length ≤ 255) :
    exec (.uSend ty drq p) s = sendResult ty drq p s := by
  rw [exec_uSend, execUSend]
  exact admitOp_of_none (inputRefusal_none_of_both hi rfl) (decide_eq_true hp)

theorem exec_simpletransfer_eq (hi : s.inited = true) (hr : s.cfg.role = .ep) (hp : p.length ≤ 255) :
    exec (.simpletransfer p) s = sendResult .data false p s := by
  rw [exec_simpletransfer, execSimpletransfer]
  exact admitOp_of_none (inputRefusal_none_of_role hi (hr ▸ rfl)) (decide_eq_true hp)

/-- `TRANSFER` with a link is a send that requests data (45_facade_and_status R245). -/
theorem exec_transfer_linked (hi : s.inited = true) (hr : s.cfg.role = .ep) (hp : p.length ≤ 255) (hl : LinkUp s) :
    exec (.transfer p) s = sendResult .data true p s := by
  rw [exec_transfer, execTransfer, if_pos ((linkExists_iff s).mpr hl)]
  exact admitOp_of_none (inputRefusal_none_of_role hi (hr ▸ rfl)) (decide_eq_true hp)

/-- `CONNECT` without a link sends a link request and answers false whatever becomes of it
(45_facade_and_status R242). -/
theorem exec_connect_unlinked (hi : s.inited = true) (hr : s.cfg.role = .ep) (hp : p.length ≤ 255)
    (hl : ¬ LinkUp s) :
    exec (.connect p) s = bindOutcome (sendFrame .linkReq true p s) fun r => ret (.bool false) r.2 := by
  rw [exec_connect, execConnect, if_neg (mt (linkExists_iff s).mp hl)]
  exact admitOp_of_none (inputRefusal_none_of_role hi (hr ▸ rfl)) (decide_eq_true hp)

end Admitted

/-! ### A send that fails -/

/-- A send's boolean is the command's result. -/
theorem sendResult_of_sendFrame {s t : State} {ty : FrameType} {drq b : Bool} {p : Bytes}
    (h : sendFrame ty drq p s = .next (b, t)) : sendResult ty drq p s = .next (answering (.bool b) t) := by
  rw [sendResult, h, bindOutcome_next, ret, answering]

/-- Where `Send` answers false, every operation that runs it answers false and ends in the state `Send` left. -/
theorem exec_sends_of_failed {s t : State} {p : Bytes} (hi : s.inited = true) (hp : p.length ≤ 255)
    (hfail : ∀ ty drq, sendFrame ty drq p s = .next (false, t)) (ty : FrameType) (drq : Bool) :
    exec (.send ty drq p) s = .next (answering (.bool false) t) ∧
    exec (.uSend ty drq p) s = .next (answering (.bool false) t) ∧
    (s.cfg.role = .ep →
      exec (.simpletransfer p) s = .next (answering (.bool false) t) ∧
      (LinkUp s → exec (.transfer p) s = .next (answering (.bool false) t)) ∧
      (¬ LinkUp s → exec (.connect p) s = .next (answering (.bool false) t))) := by
  have result (ty drq) : sendResult ty drq p s = .next (answering (.bool false) t) :=
    sendResult_of_sendFrame (hfail ty drq)
  refine ⟨?send, ?uSend, fun hr => ⟨?simpletransfer, fun hl => ?transfer, fun hl => ?connect⟩⟩
  case send => rw [exec_send_eq ty drq hi hp, result]
  case uSend => rw [exec_uSend_eq ty drq hi hp, result]
  case simpletransfer => rw [exec_simpletransfer_eq hi hr hp, result]
  case transfer => rw [exec_transfer_linked hi hr hp hl, result]
  case connect => rw [exec_connect_unlinked hi hr hp hl, hfail, bindOutcome_next, ret, answering]

/-- `LISTEN` while busy (43_scheduler_fsm R180). -/
theorem exec_listen_busy {s : State} (hi : s.inited = true) (hb : s.busy = true) :
    exec .listen s = .next (answering (.bool false) (failWith .contention s)) := by
  rw [exec_listen, execListen, admitOp_of_none (inputRefusal_none_of_both hi rfl) rfl, if_pos hb, ret, answering]

/-- Settles O19: `Send` tests `BUSY` first, and `LISTEN` tests nothing else. -/
theorem contentionChangesNothing : Obligations.ContentionChangesNothing := fun _ hi hb =>
  ⟨exec_listen_busy hi hb, fun ty drq _ hp => exec_sends_of_failed hi hp (fun _ _ => sendFrame_busy hb) ty drq⟩

/-- `DispatchData` as an operation ends as the dispatch does. -/
theorem exec_dispatchData_of_next {s t : State} (hi : s.inited = true) (h : dispatchDataOp s = .next t) :
    exec .dispatchData s = .next (answering .unit t) := by
  rw [exec_dispatchData, execDispatchData, admitOp_of_none (inputRefusal_none_of_both hi rfl) rfl, h,
    bindOutcome_next, ret, answering]

/-- Settles O20: `Send` tests the capacity before it builds; the turnaround has cleared the reply before it sends. -/
theorem capacityChangesNothing : Obligations.CapacityChangesNothing := by
  refine ⟨fun s ty drq p hi hb hp hlong => ?sends, fun s h p hi hr hb H hd h0 hlong => ?turnaround⟩
  case sends => exact exec_sends_of_failed hi hp (fun _ _ => sendFrame_tooLong hb hlong) ty drq
  case turnaround => exact exec_dispatchData_of_next hi (dispatchDataOp_tooLong H hr hb hd h0 hlong)

end Sys2Proof.Machine
end

section
/-! Command words: every layout of 30_encoding R105 read back from what the encoder writes (O1, O4), and the
layouts a word that decodes can have had (O2, O6). -/

namespace Sys2Proof

/-! ### Operand bytes -/

theorem length_bytesOfNat (w n : Nat) : (bytesOfNat w n).length = w := by
  induction w generalizing n with
  | zero => rfl
  | succ w ih => simp [bytesOfNat, ih]

theorem natOfBytes_lt (bs : Bytes) : natOfBytes bs < 256 ^ bs.length := by
  induction bs with
  | nil => simp [natOfBytes]
  | cons b bs ih =>
    have hb : b.toNat * 256 ^ bs.length ≤ 255 * 256 ^ bs.length := Nat.mul_le_mul_right _ (by omega)
    simp only [natOfBytes, List.length_cons, pow_succ]
    omega

/-- A pointer that fits its bytes is read back from them (log 11). -/
theorem natOfBytes_bytesOfNat {w n : Nat} (h : n < 256 ^ w) : natOfBytes (bytesOfNat w n) = n := by
  induction w generalizing n with
  | zero => simp [bytesOfNat, natOfBytes] at h ⊢; omega
  | succ w ih =>
    have hpos : 0 < 256 ^ w := by positivity
    have hq : n / 256 ^ w < 256 := Nat.div_lt_of_lt_mul (by rwa [pow_succ] at h)
    rw [bytesOfNat, natOfBytes, length_bytesOfNat, ih (Nat.mod_lt _ hpos), BitVec.toNat_ofNat, Nat.mod_eq_of_lt hq,
      Nat.div_add_mod']

/-- Pointer bytes are those of the number they stand for. -/
theorem bytesOfNat_natOfBytes (bs : Bytes) : bytesOfNat bs.length (natOfBytes bs) = bs := by
  induction bs with
  | nil => rfl
  | cons b bs ih =>
    have hlt := natOfBytes_lt bs
    have hpos : 0 < 256 ^ bs.length := by positivity
    simp only [natOfBytes, List.length_cons, bytesOfNat]
    rw [Nat.add_comm, Nat.add_mul_div_right _ _ hpos, Nat.div_eq_of_lt hlt, Nat.zero_add, Nat.add_mul_mod_self_right,
      Nat.mod_eq_of_lt hlt, ih, BitVec.ofNat_toNat, BitVec.setWidth_eq]

theorem flagByte_bits (hook lrcb tocb : Bool) :
    (flagByte hook lrcb tocb).extractLsb' 3 5 = 0#5 ∧ (flagByte hook lrcb tocb).getLsbD 0 = hook ∧
      (flagByte hook lrcb tocb).getLsbD 1 = lrcb ∧ (flagByte hook lrcb tocb).getLsbD 2 = tocb := by
  revert hook lrcb tocb; decide

/-- A flag byte with bits 7:3 clear is made of its three flags. -/
theorem flagByte_of_bits {f : Byte} (h : f.extractLsb' 3 5 = 0#5) :
    flagByte (f.getLsbD 0) (f.getLsbD 1) (f.getLsbD 2) = f := by
  revert f; decide

theorem typeOfCode_typeCode {c : Config} (h : c.linkreqCode ≠ 0#2) (ty : FrameType) :
    typeOfCode c (typeCode c ty) = some ty := by
  cases ty <;> simp [typeOfCode, typeCode, h]

theorem typeCode_of_typeOfCode {c : Config} {t : BitVec 2} {ty : FrameType} (h : typeOfCode c t = some ty) :
    typeCode c ty = t := by
  unfold typeOfCode at h
  split at h
  · cases h; exact Eq.symm ‹_›
  · split at h
    · cases h; exact Eq.symm ‹_›
    · cases h

theorem toNat_ofNat_length {a : Bytes} (h : a.length ≤ 255) : (BitVec.ofNat 8 a.length).toNat = a.length := by
  rw [BitVec.toNat_ofNat]; omega

/-! ### Each layout is read back -/

theorem decodeInit_of_fits {c : Config} (code : Byte) (k : Bytes → Bytes → Bool → Bool → Bool → Instr)
    {pan addr : Bytes} (hook lrcb tocb : Bool) (hp : pan.length = c.panW) (ha : addr.length = c.addrW) :
    decodeInit c code k (pan ++ addr ++ [flagByte hook lrcb tocb]) = .ok (k pan addr hook lrcb tocb) := by
  obtain ⟨hz, h0, h1, h2⟩ := flagByte_bits hook lrcb tocb
  have hdrop : (pan ++ addr ++ [flagByte hook lrcb tocb]).drop (c.panW + c.addrW) = [flagByte hook lrcb tocb] :=
    List.drop_left' (by rw [List.length_append, hp, ha])
  have hpan : (pan ++ addr ++ [flagByte hook lrcb tocb]).take c.panW = pan := by
    rw [List.append_assoc]; exact List.take_left' hp
  have haddr : ((pan ++ addr ++ [flagByte hook lrcb tocb]).drop c.panW).take c.addrW = addr := by
    rw [List.append_assoc, List.drop_left' hp]; exact List.take_left' ha
  simp only [decodeInit, hdrop, hpan, haddr, hz, h0, h1, h2, if_true]

theorem decodeLink_of_fits {c : Config} (code : Byte) {p r : Bytes} (hp : p.length = c.panW)
    (hr : r.length = c.addrW) : decodeLink c code (p ++ r) = .ok (.linkestablish p r) := by
  rw [decodeLink, if_pos (by rw [List.length_append, hp, hr]), List.take_left' hp, List.drop_left' hp]

theorem decodeCompare_of_fits (code : Byte) {a b : Bytes} (ha : a.length ≤ 255) (hab : a.length = b.length) :
    decodeCompare code (BitVec.ofNat 8 a.length :: (a ++ b)) = .ok (.compare a b) := by
  have hw := toNat_ofNat_length ha
  rw [decodeCompare, if_pos (by rw [hw, List.length_append]; omega), List.take_left' hw.symm, List.drop_left' hw.symm]

theorem decodeSend_encodeSend {c : Config} (hl : c.linkreqCode ≠ 0#2) (code : Byte)
    (k : FrameType → Bool → Bytes → Instr) (ty : FrameType) (drq : Bool) {p : Bytes} (hp : p.length ≤ 255) :
    decodeSend c code k (encodeSend c ty drq p) = .ok (k ty drq p) := by
  simp [encodeSend, decodeSend, Machine.ctlRsv_ctlOf, Machine.ctlMode_ctlOf, Machine.ctlType_ctlOf,
    Machine.ctlDrq_ctlOf, toNat_ofNat_length hp, typeOfCode_typeCode hl]

theorem decodeDrsp_of_fits {c : Config} (code : Byte) (k : Nat → Byte → Instr) {ptr : Nat} (n : Byte)
    (h : ptr < 256 ^ c.ptrW) : decodeDrsp c code k (bytesOfNat c.ptrW ptr ++ [n]) = .ok (k ptr n) := by
  have hlen := length_bytesOfNat c.ptrW ptr
  simp only [decodeDrsp, List.drop_left' hlen, List.take_left' hlen, natOfBytes_bytesOfNat h]

theorem decodeRxCheck_of_bool (code n : Byte) (crcOk : Bool) :
    decodeRxCheck code [n, if crcOk then 1#8 else 0#8] = .ok (.rxCheck n crcOk) := by
  cases crcOk <;> rfl

/-- Settles O1: each operation's word has its code's layout, and every layout reads its operands back. -/
theorem decodeInvertsEncode : Obligations.DecodeInvertsEncode := by
  intro c i hv henc hcls
  obtain ⟨-, -, -, -, hl, -⟩ := (Machine.Config.valid_iff c).mp hv
  simp only [Instr.encodable, Bool.and_eq_true] at henc
  obtain ⟨hw, hfit⟩ := henc
  cases i with
  | init pan addr hook lrcb tocb | fInit pan addr hook lrcb tocb =>
    simp only [Instr.wellFormed, Bool.and_eq_true, decide_eq_true_eq] at hw
    exact decodeInit_of_fits _ _ hook lrcb tocb hw.1 hw.2
  | linkestablish p r =>
    simp only [Instr.wellFormed, Bool.and_eq_true, decide_eq_true_eq] at hw
    exact decodeLink_of_fits _ hw.1 hw.2
  | compare a b =>
    simp only [Instr.wellFormed, Bool.and_eq_true, decide_eq_true_eq] at hw
    exact decodeCompare_of_fits _ (of_decide_eq_true hfit) hw.2
  | isbcast a => exact Machine.decodeCounted_ofNat_length _ _ (of_decide_eq_true hfit)
  | connect p | simpletransfer p | transfer p =>
    exact Machine.decodeCounted_ofNat_length _ _ (of_decide_eq_true hw)
  | send ty drq p | frameBuild ty drq p | uSend ty drq p =>
    exact decodeSend_encodeSend hl _ _ ty drq (of_decide_eq_true hw)
  | setdrsp ptr n | loaddataresponse ptr n => exact decodeDrsp_of_fits _ _ n (of_decide_eq_true hfit)
  | rxCheck n crcOk => exact decodeRxCheck_of_bool _ n crcOk
  | fDataEp | fDataGw | fLinkreqEp | fLinkreqGw | fReserved => cases hcls
  | _ => rfl

/-- Settles O4: the decoder run on each word. -/
theorem writtenOutWordsDecode : Obligations.WrittenOutWordsDecode := by
  refine ⟨rfl, rfl, rfl, rfl, rfl, rfl, rfl, ?_⟩
  decide

/-! ### What a word that decodes looks like -/

/-- `r` is an answer to the word `w`, whose code is in the table: an operation with a command word, and that word
is `w`, or a refusal of the operands. -/
structure Answers (c : Config) (w : Bytes) (r : Except DecodeError Instr) : Prop where
  known : r ≠ .error .illegalCode
  word : ∀ i, r = .ok i → encode c i = w ∧ i.isFrameClass = false

theorem Answers.of_badOperand {c : Config} {w : Bytes} {code : Byte} : Answers c w (badOperand code) :=
  ⟨nofun, nofun⟩

theorem Answers.of_ok {c : Config} {w : Bytes} {i : Instr} (he : encode c i = w) (hc : i.isFrameClass = false) :
    Answers c w (.ok i) :=
  ⟨nofun, fun _ h => by cases h; exact ⟨he, hc⟩⟩

section Layouts

variable {c : Config} {code : Byte} {ops : Bytes}

theorem decodeBare_answers {i : Instr} (he : encode c i = [code]) (hc : i.isFrameClass = false) :
    Answers c (code :: ops) (decodeBare code i ops) := by
  unfold decodeBare
  split
  next h => exact .of_ok (h ▸ he) hc
  next => exact .of_badOperand

theorem decodeInit_answers {k : Bytes → Bytes → Bool → Bool → Bool → Instr}
    (he : ∀ p a h l t, encode c (k p a h l t) = code :: (p ++ a ++ [flagByte h l t]))
    (hc : ∀ p a h l t, (k p a h l t).isFrameClass = false) :
    Answers c (code :: ops) (decodeInit c code k ops) := by
  unfold decodeInit
  split
  next f hf =>
    split
    next hz =>
      refine .of_ok ?_ (hc ..)
      rw [he, flagByte_of_bits hz, ← hf, ← List.drop_drop, List.append_assoc, List.take_append_drop,
        List.take_append_drop]
    next => exact .of_badOperand
  next => exact .of_badOperand

theorem decodeLink_answers : Answers c (0x03#8 :: ops) (decodeLink c 0x03#8 ops) := by
  unfold decodeLink
  split
  next => exact .of_ok (by rw [encode, List.take_append_drop]) rfl
  next => exact .of_badOperand

theorem decodeCounted_answers {k : Bytes → Instr}
    (he : ∀ p, encode c (k p) = code :: BitVec.ofNat 8 p.length :: p) (hc : ∀ p, (k p).isFrameClass = false) :
    Answers c (code :: ops) (decodeCounted code k ops) := by
  unfold decodeCounted
  split
  next => exact .of_badOperand
  next w bs =>
    split
    next hw => exact .of_ok (by rw [he, hw, BitVec.ofNat_toNat, BitVec.setWidth_eq]) (hc _)
    next => exact .of_badOperand

theorem decodeCompare_answers : Answers c (0x05#8 :: ops) (decodeCompare 0x05#8 ops) := by
  unfold decodeCompare
  split
  next => exact .of_badOperand
  next w bs =>
    split
    next hw =>
      have hlen : (bs.take w.toNat).length = w.toNat := by rw [List.length_take]; omega
      refine .of_ok ?_ rfl
      rw [encode, hlen, List.take_append_drop, BitVec.ofNat_toNat, BitVec.setWidth_eq]
    next => exact .of_badOperand

theorem decodeSend_answers {k : FrameType → Bool → Bytes → Instr}
    (he : ∀ ty drq p, encode c (k ty drq p) = code :: encodeSend c ty drq p)
    (hc : ∀ ty drq p, (k ty drq p).isFrameClass = false) :
    Answers c (code :: ops) (decodeSend c code k ops) := by
  unfold decodeSend
  split
  next t w bs =>
    split
    next h =>
      obtain ⟨hrsv, hmode, hw⟩ := h
      split
      next ty hty =>
        refine .of_ok ?_ (hc ..)
        rw [he, encodeSend, typeCode_of_typeOfCode hty, ← hrsv, ← hmode, Machine.ctlOf_fields, hw, BitVec.ofNat_toNat,
          BitVec.setWidth_eq]
      next => exact .of_badOperand
    next => exact .of_badOperand
  next => exact .of_badOperand

theorem decodeDrsp_answers {k : Nat → Byte → Instr}
    (he : ∀ ptr n, encode c (k ptr n) = code :: (bytesOfNat c.ptrW ptr ++ [n]))
    (hc : ∀ ptr n, (k ptr n).isFrameClass = false) :
    Answers c (code :: ops) (decodeDrsp c code k ops) := by
  unfold decodeDrsp
  split
  next n hn =>
    have hlen : (ops.take c.ptrW).length = c.ptrW := by
      have := congrArg List.length hn
      simp only [List.length_drop, List.length_singleton] at this
      rw [List.length_take]; omega
    have hptr := bytesOfNat_natOfBytes (ops.take c.ptrW)
    rw [hlen] at hptr
    exact .of_ok (by rw [he, hptr, ← hn, List.take_append_drop]) (hc ..)
  next => exact .of_badOperand

theorem decodeRxCheck_answers : Answers c (0xC9#8 :: ops) (decodeRxCheck 0xC9#8 ops) := by
  unfold decodeRxCheck
  split
  next n f =>
    split
    next hf => exact .of_ok (by rw [hf]; rfl) rfl
    next =>
      split
      next hf => exact .of_ok (by rw [hf]; rfl) rfl
      next => exact .of_badOperand
  next => exact .of_badOperand

end Layouts

/-- The operation codes of 30_encoding R104. -/
def tableCodes : List Byte :=
  [0x00#8, 0x01#8, 0x02#8, 0x03#8, 0x04#8, 0x05#8, 0x10#8, 0x11#8, 0x12#8, 0x13#8, 0x20#8, 0x21#8,
    0x22#8, 0x23#8, 0x24#8, 0x25#8, 0x26#8, 0x40#8, 0x41#8, 0x42#8, 0x43#8, 0x44#8, 0x45#8, 0x46#8, 0x80#8,
    0x81#8, 0x82#8, 0xC0#8, 0xC1#8, 0xC2#8, 0xC3#8, 0xC4#8, 0xC5#8, 0xC6#8, 0xC7#8, 0xC8#8, 0xC9#8, 0xCA#8]

/-- The table of R104, row by row: each code's layout answers its words, and every other code is unknown. -/
theorem decodeOps_cases (c : Config) (code : Byte) (ops : Bytes) :
    (code ∈ tableCodes ∧ Answers c (code :: ops) (decodeOps c code ops)) ∨
      (code ∉ tableCodes ∧ decodeOps c code ops = .error .illegalCode) := by
  unfold decodeOps
  split
  case h_1 | h_18 => exact .inl ⟨by decide, decodeInit_answers (fun _ _ _ _ _ => rfl) fun _ _ _ _ _ => rfl⟩
  case h_2 | h_19 | h_21 | h_22 => exact .inl ⟨by decide, decodeCounted_answers (fun _ => rfl) fun _ => rfl⟩
  case h_4 => exact .inl ⟨by decide, decodeLink_answers⟩
  case h_6 => exact .inl ⟨by decide, decodeCompare_answers⟩
  case h_8 | h_28 | h_35 => exact .inl ⟨by decide, decodeSend_answers (fun _ _ _ => rfl) fun _ _ _ => rfl⟩
  case h_9 | h_23 => exact .inl ⟨by decide, decodeDrsp_answers (fun _ _ => rfl) fun _ _ => rfl⟩
  case h_26 => exact .inl ⟨by decide, .of_ok rfl rfl⟩
  case h_37 => exact .inl ⟨by decide, decodeRxCheck_answers⟩
  case h_39 => exact .inr ⟨by simp_all [tableCodes], rfl⟩
  all_goals exact .inl ⟨by decide, decodeBare_answers rfl rfl⟩

theorem decodeOps_eq_ok {c : Config} {code : Byte} {ops : Bytes} {i : Instr} (h : decodeOps c code ops = .ok i) :
    encode c i = code :: ops ∧ i.isFrameClass = false := by
  obtain ⟨-, ha⟩ | ⟨-, he⟩ := decodeOps_cases c code ops
  · exact ha.word i h
  · rw [he] at h; cases h

/-- Settles O2: a code's layout keeps every bit of the operands. -/
theorem encodeInvertsDecode : Obligations.EncodeInvertsDecode := by
  intro c w i h
  cases w with
  | nil => cases h
  | cons code ops => exact (decodeOps_eq_ok h).1

end Sys2Proof
end

section
/-! Control bytes (O3): the class of a byte is decided by its type and mode, and its four fields are the byte. -/

namespace Sys2Proof

theorem typeOfCode_zero (c : Config) : typeOfCode c 0#2 = some .data := rfl

theorem typeOfCode_linkreq {c : Config} (h : c.linkreqCode ≠ 0#2) : typeOfCode c c.linkreqCode = some .linkReq :=
  typeOfCode_typeCode h .linkReq

theorem typeOfCode_eq_none {c : Config} {t : BitVec 2} : typeOfCode c t = none ↔ t ≠ 0#2 ∧ t ≠ c.linkreqCode := by
  unfold typeOfCode; split <;> simp_all

theorem typeOfCode_eq_data {c : Config} {t : BitVec 2} : typeOfCode c t = some .data ↔ t = 0#2 := by
  unfold typeOfCode; split <;> simp_all

theorem typeOfCode_eq_linkReq {c : Config} (h : c.linkreqCode ≠ 0#2) {t : BitVec 2} :
    typeOfCode c t = some .linkReq ↔ t = c.linkreqCode :=
  ⟨fun ht => (typeCode_of_typeOfCode ht).symm, fun ht => ht ▸ typeOfCode_linkreq h⟩

/-- The class of a byte is a frame class in its operand range, and its control byte is the byte. -/
theorem decodeCtl_spec (c : Config) (b : Byte) :
    encode c (decodeCtl c b) = [b] ∧ (decodeCtl c b).isFrameClass = true ∧ (decodeCtl c b).wellFormed c = true := by
  have hb := Machine.ctlOf_fields b
  unfold decodeCtl
  cases ht : typeOfCode c (ctlType b) with
  | none =>
    have hw := typeOfCode_eq_none.mp ht
    cases hm : ctlMode b <;> exact ⟨by rw [← hm, encode, hb], rfl, by simp [Instr.wellFormed, hw]⟩
  | some ty =>
    have hty := typeCode_of_typeOfCode ht
    cases ty <;> cases hm : ctlMode b <;> exact ⟨by rw [hm, ← hty] at hb; exact congrArg (fun x => [x]) hb, rfl, rfl⟩

/-- Every well-formed frame class is the class of its own control byte. -/
theorem decodeCtl_encode {c : Config} (hl : c.linkreqCode ≠ 0#2) {i : Instr} (hc : i.isFrameClass = true)
    (hw : i.wellFormed c = true) : ∃ b, encode c i = [b] ∧ decodeCtl c b = i := by
  cases i with
  | fDataEp rsv drq | fDataGw rsv drq => exact ⟨_, rfl, by simp [decodeCtl, typeOfCode_zero]⟩
  | fLinkreqEp rsv drq | fLinkreqGw rsv drq => exact ⟨_, rfl, by simp [decodeCtl, typeOfCode_linkreq hl]⟩
  | fReserved ty rsv drq mode =>
    simp only [Instr.wellFormed, Bool.and_eq_true, decide_eq_true_eq] at hw
    exact ⟨_, rfl, by simp [decodeCtl, typeOfCode_eq_none.mpr hw]⟩
  | _ => cases hc

/-- Which class a byte is of, by its type and its mode (30_encoding R106). -/
theorem decodeCtl_class_iff {c : Config} (hl : c.linkreqCode ≠ 0#2) (b : Byte) :
    ((∃ r d, decodeCtl c b = .fDataEp r d) ↔ ctlType b = 0#2 ∧ ctlMode b = false) ∧
    ((∃ r d, decodeCtl c b = .fDataGw r d) ↔ ctlType b = 0#2 ∧ ctlMode b = true) ∧
    ((∃ r d, decodeCtl c b = .fLinkreqEp r d) ↔ ctlType b = c.linkreqCode ∧ ctlMode b = false) ∧
    ((∃ r d, decodeCtl c b = .fLinkreqGw r d) ↔ ctlType b = c.linkreqCode ∧ ctlMode b = true) ∧
    ((∃ t r d m, decodeCtl c b = .fReserved t r d m) ↔ ctlType b ≠ 0#2 ∧ ctlType b ≠ c.linkreqCode) := by
  rw [← typeOfCode_eq_none, ← typeOfCode_eq_linkReq hl, ← typeOfCode_eq_data (c := c)]
  unfold decodeCtl
  cases typeOfCode c (ctlType b) with
  | none => cases ctlMode b <;> simp
  | some ty => cases ty <;> cases ctlMode b <;> simp

/-- The masks of R106 read the type and the mode of the reference configuration. -/
theorem referenceMasks (b : Byte) :
    ((ctlType b = 0#2 ∧ ctlMode b = false) ↔ b &&& 0xC1#8 = 0x00#8) ∧
    ((ctlType b = 0#2 ∧ ctlMode b = true) ↔ b &&& 0xC1#8 = 0x01#8) ∧
    ((ctlType b = 1#2 ∧ ctlMode b = false) ↔ b &&& 0xC1#8 = 0x40#8) ∧
    ((ctlType b = 1#2 ∧ ctlMode b = true) ↔ b &&& 0xC1#8 = 0x41#8) ∧
    ((ctlType b ≠ 0#2 ∧ ctlType b ≠ 1#2) ↔ b &&& 0x80#8 = 0x80#8) := by
  revert b; decide

/-- Settles O3: type and mode decide the class, and the four fields are the byte. -/
theorem controlByteHasOneFrameClass : Obligations.ControlByteHasOneFrameClass := by
  refine ⟨fun c hv => ⟨decodeCtl_spec c, fun i hc hw => ?_⟩, fun b => ?_⟩
  · obtain ⟨-, -, -, -, hl, -⟩ := (Machine.Config.valid_iff c).mp hv
    exact decodeCtl_encode hl hc hw
  · obtain ⟨h1, h2, h3, h4, h5⟩ := decodeCtl_class_iff (c := Config.cfg1) (by decide) b
    obtain ⟨m1, m2, m3, m4, m5⟩ := referenceMasks b
    exact ⟨h1.trans m1, h2.trans m2, h3.trans m3, h4.trans m4, h5.trans m5⟩

end Sys2Proof
end

section
/-! Who may issue an operation, and a step as the delivery of one input (O5 to O9). Every arm of `exec` is one test of
admission and then the operation's own meaning; the two are named here, so that later proofs cite one equation
instead of 43 arms. -/

namespace Sys2Proof.Machine

/-- The code under which admission judges an operation (30_encoding R104). A frame class has none: it is admitted as
an operation of both roles after `INIT`, as every code outside the table would be. -/
def admissionCode : Instr → Byte
  | .init _ _ _ _ _ => 0x00#8
  | .isbcast _ => 0x01#8
  | .linkexists => 0x02#8
  | .linkestablish _ _ => 0x03#8
  | .linkdestroy => 0x04#8
  | .compare _ _ => 0x05#8
  | .listen => 0x10#8
  | .send _ _ _ => 0x11#8
  | .setdrsp _ _ => 0x12#8
  | .busy => 0x13#8
  | .getpan => 0x20#8
  | .getlink => 0x21#8
  | .getlastsrc => 0x22#8
  | .getlastseq => 0x23#8
  | .getrssi => 0x24#8
  | .getlqi => 0x25#8
  | .getcrc => 0x26#8
  | .fInit _ _ _ _ _ => 0x40#8
  | .connect _ => 0x41#8
  | .disconnect => 0x42#8
  | .simpletransfer _ => 0x43#8
  | .transfer _ => 0x44#8
  | .loaddataresponse _ _ => 0x45#8
  | .fBusy => 0x46#8
  | .edgeTx => 0x80#8
  | .edgeRx _ => 0x81#8
  | .tick => 0x82#8
  | .frameBuild _ _ _ => 0xC0#8
  | .validateEp => 0xC1#8
  | .validateGw => 0xC2#8
  | .dispatchData => 0xC3#8
  | .dispatchLinkRequest => 0xC4#8
  | .frameIdle => 0xC5#8
  | .timeoutHandler => 0xC6#8
  | .uSend _ _ _ => 0xC7#8
  | .armReceive => 0xC8#8
  | .rxCheck _ _ => 0xC9#8
  | .classify => 0xCA#8
  | .fDataEp _ _ | .fDataGw _ _ | .fLinkreqEp _ _ | .fLinkreqGw _ _ | .fReserved _ _ _ _ => 0xFF#8

/-- The meaning of an operation once admitted. -/
def meaning (i : Instr) (s : State) : Res :=
  match i with
  | .init pan addr hook lrcb tocb => bindOutcome (initialise pan addr hook lrcb tocb s) (ret .unit)
  | .isbcast a => ret (.bool (isBcast s.cfg a)) s
  | .linkexists | .getlink => ret (.bool (linkExists s)) s
  | .linkestablish p r => ret .unit (linkEstablish p r s)
  | .linkdestroy | .disconnect => ret .unit (linkDestroy s)
  | .compare a b => ret (.order (compareBytes a b)) s
  | .listen => if s.busy then ret (.bool false) (failWith .contention s) else ret (.bool true) (armRx s)
  | .send ty drq p | .uSend ty drq p => sendResult ty drq p s
  | .setdrsp ptr len | .loaddataresponse ptr len => ret .unit (stageResponse ptr len s)
  | .busy | .fBusy => ret (.bool s.busy) s
  | .getpan => ret (.bytes s.panid) s
  | .getlastsrc => bindOutcome (readFb s s.cfg.offSrc s.cfg.addrW) fun b => ret (.bytes b) s
  | .getlastseq => bindOutcome (readFbByte s s.cfg.offSeq) fun b => ret (.byte b) s
  | .getrssi => readLatch (.byte s.lastRssi) s
  | .getlqi => readLatch (.byte (s.lastLqi.setWidth 8)) s
  | .getcrc => readLatch (.bool s.lastCrc) s
  | .fInit pan addr hook lrcb tocb => bindOutcome (initialise pan addr hook lrcb tocb s) (ret (.bool true))
  | .connect p =>
    if linkExists s then ret (.bool true) s
    else bindOutcome (sendFrame .linkReq true p s) fun r => ret (.bool false) r.2
  | .simpletransfer p => sendResult .data false p s
  | .transfer p => if linkExists s then sendResult .data true p s else ret (.bool false) s
  | .edgeTx => bindOutcome (transmitDone s) retStatus
  | .edgeRx env => bindOutcome (receiveDone env s) retStatus
  | .tick => ret .unit (tickOp s)
  | .frameBuild ty drq p => bindOutcome (buildFrame ty drq p s) (ret .unit)
  | .validateEp => bindOutcome (readHeader s) fun h => ret (.verdict (validateEpOp s h)) s
  | .validateGw => bindOutcome (readHeader s) fun h => ret (.verdict (validateGwOp s h)) s
  | .dispatchData => bindOutcome (dispatchDataOp s) (ret .unit)
  | .dispatchLinkRequest => bindOutcome (dispatchLinkOp s) (ret .unit)
  | .frameIdle => ret .unit (idlePolicy s)
  | .timeoutHandler => ret .unit (timeoutOp s)
  | .armReceive => ret .unit (armRx s)
  | .rxCheck n crcOk => ret (.verdict (rxCheckOp s.cfg n.toNat crcOk)) s
  | .classify => bindOutcome (readFbByte s s.cfg.offCtl) fun c => ret (.frameClass (classifyCtl s.cfg c)) s
  | .fDataEp rsv drq => bindOutcome (frameArrived (ctlOf 0#2 rsv drq false) s) (ret .unit)
  | .fDataGw rsv drq => bindOutcome (frameArrived (ctlOf 0#2 rsv drq true) s) (ret .unit)
  | .fLinkreqEp rsv drq => bindOutcome (frameArrived (ctlOf s.cfg.linkreqCode rsv drq false) s) (ret .unit)
  | .fLinkreqGw rsv drq => bindOutcome (frameArrived (ctlOf s.cfg.linkreqCode rsv drq true) s) (ret .unit)
  | .fReserved ty rsv drq mode => bindOutcome (frameArrived (ctlOf ty rsv drq mode) s) (ret .unit)

theorem admitFrame_eq_admitOp (i : Instr) (s : State) (k : Res) : admitFrame i s k = admitOp 0xFF#8 i s k := by
  unfold admitFrame admitOp inputRefusal
  cases s.inited <;> rfl

/-- Every operation is admitted by its code, and then runs its meaning. -/
theorem exec_eq_admitOp (i : Instr) (s : State) : exec i s = admitOp (admissionCode i) i s (meaning i s) := by
  cases i with
  | fDataEp | fDataGw | fLinkreqEp | fLinkreqGw | fReserved => exact admitFrame_eq_admitOp _ s _
  | _ => rfl

section Admission

variable {s t : State} {i : Instr}

theorem exec_eq_meaning (h : inputRefusal s (admissionCode i) = none) (hw : i.wellFormed s.cfg = true) :
    exec i s = meaning i s := by rw [exec_eq_admitOp, admitOp_of_none h hw]

/-- An operation of both roles, once initialised. -/
theorem exec_of_both (hi : s.inited = true) (hr : onlyRole (admissionCode i) = none)
    (hw : i.wellFormed s.cfg = true) : exec i s = meaning i s :=
  exec_eq_meaning (inputRefusal_none_of_both hi hr) hw

/-- An operation of one role, on that role, once initialised. -/
theorem exec_of_role {r : Role} (hi : s.inited = true) (hr : s.cfg.role = r)
    (ho : onlyRole (admissionCode i) = some r) (hw : i.wellFormed s.cfg = true) : exec i s = meaning i s :=
  exec_eq_meaning (inputRefusal_none_of_role hi (hr ▸ ho)) hw

theorem exec_of_beforeInit (hb : beforeInit (admissionCode i) = true) (hr : onlyRole (admissionCode i) = none)
    (hw : i.wellFormed s.cfg = true) : exec i s = meaning i s :=
  exec_eq_meaning (inputRefusal_none_of_beforeInit s hb hr) hw

theorem exec_eq_next : exec i s = .next t ↔
    inputRefusal s (admissionCode i) = none ∧ i.wellFormed s.cfg = true ∧ meaning i s = .next t := by
  rw [exec_eq_admitOp, admitOp_eq_next]

theorem exec_eq_fault {r : Fault} : exec i s = .fault r ↔
    inputRefusal s (admissionCode i) = none ∧ i.wellFormed s.cfg = true ∧ meaning i s = .fault r := by
  rw [exec_eq_admitOp, admitOp_eq_fault]

theorem exec_preinit (hi : s.inited = false) (hb : beforeInit (admissionCode i) = false) :
    exec i s = .refused .uPreinit := by rw [exec_eq_admitOp, admitOp_of_some (inputRefusal_preinit hi hb)]

theorem exec_wrongRole {r : Role} (hi : s.inited = true) (ho : onlyRole (admissionCode i) = some r)
    (h : s.cfg.role ≠ r) : exec i s = .refused .uRole := by
  rw [exec_eq_admitOp, admitOp_of_some (inputRefusal_wrongRole hi ho h)]

theorem exec_badOperand (h : inputRefusal s (admissionCode i) = none) (hw : i.wellFormed s.cfg = false) :
    exec i s = .refused .uBadOperand := by
  rw [exec_eq_admitOp, admitOp, h]
  exact if_neg (by simp [hw])

end Admission

/-- The operations that may come before `INIT` (60_exceptions R277). -/
theorem beforeInit_admissionCode {i : Instr} (hinit : ∀ p a h l t, i ≠ .init p a h l t)
    (hfInit : ∀ p a h l t, i ≠ .fInit p a h l t) (hisbcast : ∀ a, i ≠ .isbcast a) (hcompare : ∀ a b, i ≠ .compare a b) :
    beforeInit (admissionCode i) = false := by
  cases i with
  | init => exact (hinit _ _ _ _ _ rfl).elim
  | fInit => exact (hfInit _ _ _ _ _ rfl).elim
  | isbcast => exact (hisbcast _ rfl).elim
  | compare => exact (hcompare _ _ rfl).elim
  | _ => rfl

theorem initialise_again {s : State} (hi : s.inited = true) (pan addr : Bytes) (hook lrcb tocb : Bool) :
    initialise pan addr hook lrcb tocb s = .refused .uReinit := by rw [initialise, if_pos hi]

/-- Settles O7: `U_PREINIT` is the first test of admission, and `INIT` first tests `INITED`. -/
theorem initComesFirstAndOnce : Obligations.InitComesFirstAndOnce := by
  refine ⟨fun i s hi h1 h2 h3 h4 => exec_preinit hi (beforeInit_admissionCode h1 h2 h3 h4), ?again⟩
  case again =>
    rintro s pan addr hook lrcb tocb i (rfl | rfl) hi hp ha
    all_goals
      rw [exec_of_both hi rfl (by simp [Instr.wellFormed, hp, ha]), meaning, initialise_again hi, bindOutcome_refused]

/-- Settles O8: the roles column of R104, read once for each operation of one role. -/
theorem otherRoleIsRefused : Obligations.OtherRoleIsRefused := by
  refine fun s hi => ⟨fun hr => ?gw, fun hr => ?ep⟩
  case gw =>
    have wrong {i : Instr} (ho : onlyRole (admissionCode i) = some .ep) : exec i s = .refused .uRole :=
      exec_wrongRole hi ho (by rw [hr]; decide)
    exact ⟨wrong rfl, fun _ _ => wrong rfl, wrong rfl, wrong rfl, fun _ => wrong rfl, wrong rfl, fun _ => wrong rfl,
      fun _ => wrong rfl, wrong rfl, wrong rfl⟩
  case ep =>
    have wrong {i : Instr} (ho : onlyRole (admissionCode i) = some .gw) : exec i s = .refused .uRole :=
      exec_wrongRole hi ho (by rw [hr]; decide)
    exact ⟨fun _ _ => wrong rfl, fun _ _ => wrong rfl, wrong rfl⟩

/-- Settles O9: the operand range is the last test of admission, before the operation's own conditions. -/
theorem operandRangesAreChecked : Obligations.OperandRangesAreChecked := by
  refine fun s => ⟨fun i h => ?always, fun hi i h => ?both, fun hi hr i h => ?ep⟩
  case always =>
    obtain ⟨p, a, hk, l, t, rfl | rfl, h⟩ | rfl | ⟨a, b, rfl, h⟩ := h
    · exact exec_badOperand (inputRefusal_none_of_beforeInit s rfl rfl) (by simpa [Instr.wellFormed, imp_iff_not_or])
    · exact exec_badOperand (inputRefusal_none_of_beforeInit s rfl rfl) (by simpa [Instr.wellFormed, imp_iff_not_or])
    · exact exec_badOperand (inputRefusal_none_of_beforeInit s rfl rfl) rfl
    · refine exec_badOperand (inputRefusal_none_of_beforeInit s rfl rfl) ?_
      simp only [Instr.wellFormed, Bool.and_eq_false_iff, decide_eq_false_iff_not]
      exact h.imp_left fun h => by simp [h]
  case both =>
    obtain ⟨ty, drq, p, rfl | rfl | rfl, h⟩ | ⟨ty, rsv, drq, m, rfl, h⟩ := h
    · exact exec_badOperand (inputRefusal_none_of_both hi rfl) (decide_eq_false (by omega))
    · exact exec_badOperand (inputRefusal_none_of_both hi rfl) (decide_eq_false (by omega))
    · exact exec_badOperand (inputRefusal_none_of_both hi rfl) (decide_eq_false (by omega))
    · exact exec_badOperand (inputRefusal_none_of_both hi rfl) (by simpa [Instr.wellFormed, imp_iff_not_or] using h)
  case ep =>
    have admitted {i : Instr} (ho : onlyRole (admissionCode i) = some .ep) : inputRefusal s (admissionCode i) = none :=
      inputRefusal_none_of_role hi (hr ▸ ho)
    obtain ⟨p, r, rfl, h⟩ | ⟨p, rfl | rfl | rfl, h⟩ := h
    · exact exec_badOperand (admitted rfl) (by simpa [Instr.wellFormed, imp_iff_not_or])
    · exact exec_badOperand (admitted rfl) (decide_eq_false (by omega))
    · exact exec_badOperand (admitted rfl) (decide_eq_false (by omega))
    · exact exec_badOperand (admitted rfl) (decide_eq_false (by omega))

/-! ### A step -/

theorem step_of_pending {s : State} {r : Request} {rest : List Request} (hv : s.cfg.valid = true)
    (hp : s.pending = r :: rest) : step s = stepWord r.word (deliver r rest s) := by
  simp only [step, nextInput, hv, hp, if_true]

theorem step_of_idle {s : State} (hv : s.cfg.valid = true) (hp : s.pending = []) : step s = .next s := by
  simp only [step, nextInput, hv, hp, if_true]

theorem stepWord_of_input {s : State} {w : Bytes} {i : Instr} (hd : decode s.cfg w = .ok i) (hin : i.isInput = true) :
    stepWord w s = exec i s := by simp only [stepWord, hd, hin, if_true]

theorem stepWord_of_notInput {s : State} {w : Bytes} {i : Instr} (hd : decode s.cfg w = .ok i)
    (hin : i.isInput = false) : stepWord w s = .refused (refuseCode s) := by
  simp only [stepWord, hd, hin, Bool.false_eq_true, if_false]

theorem stepWord_of_error {s : State} {w : Bytes} {e : DecodeError} (hd : decode s.cfg w = .error e) :
    stepWord w s = .refused (refuseWord s e) := by simp only [stepWord, hd]

/-- What a step that stops or goes on has done: it waited, or it ran the input its first word decodes to, or it
refused the word. -/
theorem step_cases (s : State) :
    s.cfg.valid = false ∧ step s = .refused .notBlmac ∨
    s.cfg.valid = true ∧ (s.pending = [] ∧ step s = .next s ∨
      ∃ r rest, s.pending = r :: rest ∧
        ((∃ i, decode s.cfg r.word = .ok i ∧ i.isInput = true ∧ step s = exec i (deliver r rest s)) ∨
          ∃ e, step s = .refused e)) := by
  cases hv : s.cfg.valid with
  | false => exact .inl ⟨rfl, by simp [step, nextInput, hv]⟩
  | true =>
    refine .inr ⟨rfl, ?_⟩
    cases hp : s.pending with
    | nil => exact .inl ⟨rfl, step_of_idle hv hp⟩
    | cons r rest =>
      refine .inr ⟨r, rest, rfl, ?_⟩
      rw [step_of_pending hv hp]
      cases hd : decode s.cfg r.word with
      | error e => exact .inr ⟨_, stepWord_of_error hd⟩
      | ok i =>
        cases hin : i.isInput with
        | false => exact .inr ⟨_, stepWord_of_notInput hd hin⟩
        | true => exact .inl ⟨i, rfl, hin, stepWord_of_input hd hin⟩

/-- A step with an input pending that goes on has run the input its word decodes to. -/
theorem step_eq_next_of_pending {s t : State} {r : Request} {rest : List Request} (hp : s.pending = r :: rest)
    (h : step s = .next t) :
    ∃ i, decode s.cfg r.word = .ok i ∧ i.isInput = true ∧ exec i (deliver r rest s) = .next t := by
  obtain ⟨-, he⟩ | ⟨-, ⟨hn, -⟩ | ⟨r', rest', hp', ⟨i, hd, hin, he⟩ | ⟨e, he⟩⟩⟩ := step_cases s
  · cases he.symm.trans h
  · cases hn.symm.trans hp
  · cases hp'.symm.trans hp
    exact ⟨i, hd, hin, he ▸ h⟩
  · cases he.symm.trans h

/-- Settles O5: `deliver` is the state the statement writes out. -/
theorem stepRunsThePendingInput : Obligations.StepRunsThePendingInput :=
  ⟨fun _ _ _ _ hv hp hd hin => (step_of_pending hv hp).trans (stepWord_of_input hd hin), fun _ => step_of_idle⟩

/-! ### Words that are no input -/

/-- The code byte of an operation's command word. -/
theorem encode_eq_cons (c : Config) {i : Instr} (h : i.isFrameClass = false) :
    ∃ ops, encode c i = admissionCode i :: ops := by
  cases i with
  | fDataEp | fDataGw | fLinkreqEp | fLinkreqGw | fReserved => cases h
  | _ => exact ⟨_, rfl⟩

/-- The codes of the inputs are those below `0xC0` (30_encoding R104). -/
theorem isInput_eq_false_iff (i : Instr) : i.isInput = false ↔ 0xC0#8 ≤ admissionCode i := by
  cases i with
  | frameBuild | validateEp | validateGw | dispatchData | dispatchLinkRequest | frameIdle | timeoutHandler | uSend
  | armReceive | rxCheck | classify | fDataEp | fDataGw | fLinkreqEp | fLinkreqGw | fReserved =>
    exact iff_of_true rfl (of_decide_eq_true rfl)
  | _ => exact iff_of_false nofun (of_decide_eq_false rfl)

theorem admissionCode_of_decode {c : Config} {code : Byte} {ops : Bytes} {i : Instr}
    (h : decode c (code :: ops) = .ok i) : admissionCode i = code := by
  obtain ⟨he, hc⟩ := decodeOps_eq_ok h
  obtain ⟨ops', he'⟩ := encode_eq_cons c hc
  exact (List.cons.inj (he'.symm.trans he)).1

theorem decode_illegal_iff (c : Config) (code : Byte) (ops : Bytes) :
    decode c (code :: ops) = .error .illegalCode ↔ code ∉ tableCodes := by
  obtain ⟨hmem, ha⟩ | ⟨hmem, he⟩ := decodeOps_cases c code ops
  · exact iff_of_false ha.known (not_not_intro hmem)
  · exact iff_of_true he hmem

/-- The refusal of a wrong layout once initialised (60_exceptions R286, log 14). -/
theorem refuseWord_badOperand {s : State} (hi : s.inited = true) (code : Byte) :
    refuseWord s (.badOperand code) = if 0xC0#8 ≤ code then .uIllegalCode
      else if onlyRole code = none ∨ onlyRole code = some s.cfg.role then .uBadOperand else .uRole := by
  simp only [refuseWord, refuseCode, inputRefusal, hi, if_true, Bool.not_true, Bool.false_and, Bool.false_eq_true,
    if_false]
  congr 1
  cases ho : onlyRole code with
  | none => simp
  | some r => by_cases hr : r = s.cfg.role <;> simp [hr, eq_comm (a := s.cfg.role)]

/-- The refusal of a wrong layout before `INIT` (log 24). -/
theorem refuseWord_badOperand_preinit {s : State} (hi : s.inited = false) (code : Byte) :
    refuseWord s (.badOperand code) =
      if code = 0x00#8 ∨ code = 0x01#8 ∨ code = 0x05#8 ∨ code = 0x40#8 then .uBadOperand else .uPreinit := by
  split
  next h =>
    obtain rfl | rfl | rfl | rfl := h
    all_goals simp [refuseWord, inputRefusal, hi, beforeInit, onlyRole]
  next h =>
    have hb : beforeInit code = false := by simpa [beforeInit, and_assoc] using h
    rw [refuseWord, inputRefusal_preinit hi hb]
    simp [refuseCode, hi]

/-- Settles O6: the codes of the table, the codes of the inputs, and the order of the refusals. -/
theorem wordsThatAreNoInputAreRefused : Obligations.WordsThatAreNoInputAreRefused := by
  refine ⟨decode_illegal_iff, fun c code ops i h => ?inputs, fun s r rest hv hi hp => ?inited,
    fun s r rest hv hi hp => ?preinit⟩
  case inputs => rw [isInput_eq_false_iff, admissionCode_of_decode h]
  case inited =>
    have hcode : refuseCode (deliver r rest s) = .uIllegalCode := if_pos hi
    rw [step_of_pending hv hp]
    refine ⟨fun i hd hin => ?_, fun hd => ?_, fun code hd => ?_⟩
    · rw [stepWord_of_notInput (s := deliver r rest s) hd hin, hcode]
    · rw [stepWord_of_error (s := deliver r rest s) hd, refuseWord, hcode]
    · rw [stepWord_of_error (s := deliver r rest s) hd, refuseWord_badOperand (by exact hi)]
      rfl
  case preinit =>
    have hcode : refuseCode (deliver r rest s) = .uPreinit := if_neg (by simp [hi])
    rw [step_of_pending hv hp]
    refine ⟨fun i hd hin => ?_, fun hd => ?_, fun code hd => ?_⟩
    · rw [stepWord_of_notInput (s := deliver r rest s) hd hin, hcode]
    · rw [stepWord_of_error (s := deliver r rest s) hd, refuseWord, hcode]
    · rw [stepWord_of_error (s := deliver r rest s) hd, refuseWord_badOperand_preinit (by exact hi)]

end Sys2Proof.Machine
end

section
/-! The Addressing Registry: `INIT` (O10, O11), the link operations (O14 to O16) and `COMPARE` (O17). -/

namespace Sys2Proof.Machine

/-! ### `INIT` -/

/-- The state `INIT` leaves on an End Point (10_state R43, 40_addressing_registry R120). -/
def epStarted (pan addr : Bytes) (hook tocb : Bool) (s : State) : State :=
  { s with
    panid := pan, localAddr := addr, remote := List.replicate s.cfg.addrW s.cfg.bcast, hook := hook, tocb := tocb,
    fixed := !isBcast s.cfg pan, afEn := !isBcast s.cfg pan,
    afByte := if isBcast s.cfg pan then s.afByte else pan.getLastD 0#8,
    out := s.out ++ [if isBcast s.cfg pan then .afDisable else .afEnable (pan.getLastD 0#8)],
    busy := false, st := .idle, seq := s.cfg.seqInit, len := 0#8, fb := [], fbtag := .none,
    rxtoAct := if s.cfg.hasRxto then false else s.rxtoAct,
    radio := .unknown, lastV := false, inited := true }

/-- The state `INIT` leaves on a Gateway. -/
def gwStarted (pan addr : Bytes) (lrcb : Bool) (s : State) : State :=
  { s with
    panid := pan, localAddr := addr, lrcb := lrcb, drspLen := 0#8, afEn := true, afByte := pan.getLastD 0#8,
    out := s.out ++ [.afEnable (pan.getLastD 0#8)],
    busy := false, st := .idle, seq := s.cfg.seqInit, len := 0#8, fb := [], fbtag := .none,
    radio := .unknown, lastV := false, inited := true }

section Initialise

variable {s : State} {pan addr : Bytes} {hook lrcb tocb : Bool}

theorem initialise_ep (hi : s.inited = false) (hr : s.cfg.role = .ep) (hp : pan.length = s.cfg.panW) :
    initialise pan addr hook lrcb tocb s = .next (epStarted pan addr hook tocb s) := by
  unfold initialise epStarted
  cases hb : isBcast s.cfg pan <;> simp [hi, hr, hb, afEnable, afDisable, emit, Config.bcastOf, lowByte_eq hp]

theorem hasRxto_gw {c : Config} (hr : c.role = .gw) : c.hasRxto = false := by simp [Config.hasRxto, hr]

theorem initialise_gw (hi : s.inited = false) (hr : s.cfg.role = .gw) (hp : pan.length = s.cfg.panW)
    (hb : isBcast s.cfg pan = false) :
    initialise pan addr hook lrcb tocb s = .next (gwStarted pan addr lrcb s) := by
  unfold initialise gwStarted
  simp [hi, hr, hb, afEnable, emit, lowByte_eq hp, hasRxto_gw]

theorem initialise_gw_bcast (hi : s.inited = false) (hr : s.cfg.role = .gw) (hb : isBcast s.cfg pan = true) :
    initialise pan addr hook lrcb tocb s = .refused .uGwBcastPan := by
  simp [initialise, hi, hr, hb]

/-- `INIT` and `F_INIT` are one meaning but for the result (45_facade_and_status R241). -/
theorem exec_init {i : Instr} {r : Result}
    (h : (i = .init pan addr hook lrcb tocb ∧ r = .unit) ∨ (i = .fInit pan addr hook lrcb tocb ∧ r = .bool true))
    (hp : pan.length = s.cfg.panW) (ha : addr.length = s.cfg.addrW) :
    exec i s = bindOutcome (initialise pan addr hook lrcb tocb s) (ret r) := by
  obtain ⟨rfl, rfl⟩ | ⟨rfl, rfl⟩ := h
  all_goals rw [exec_of_beforeInit rfl rfl (by simp [Instr.wellFormed, hp, ha]), meaning]

end Initialise

/-- Settles O10: the End Point's table, for a PAN id that is broadcast or not. -/
theorem initEndPoint : Obligations.InitEndPoint := by
  intro s pan addr hook lrcb tocb i r h hi hr hp ha _
  rw [exec_init h hp ha, initialise_ep hi hr hp, bindOutcome_next, ret, epStarted]
  refine ⟨fun hb => ?_, fun hb => ?_⟩
  · rw [(isBcast_false_iff_exists ..).mpr hb]; rfl
  · rw [(isBcast_iff_forall ..).mpr hb]; rfl

/-- Settles O11: the Gateway's table, and its refusal of the broadcast PAN id. -/
theorem initGateway : Obligations.InitGateway := by
  intro s pan addr hook lrcb tocb i r h hi hr hp ha _
  rw [exec_init h hp ha]
  refine ⟨fun hb => ?_, fun hb => ?_⟩
  · rw [initialise_gw hi hr hp ((isBcast_false_iff_exists ..).mpr hb)]; rfl
  · rw [initialise_gw_bcast hi hr ((isBcast_iff_forall ..).mpr hb), bindOutcome_refused]

/-! ### The link operations -/

@[simp] theorem linked_remote (p r : Bytes) (s : State) : (linked p r s).remote = r := by
  unfold linked; split <;> simp

theorem linked_panid (p r : Bytes) (s : State) : (linked p r s).panid = if s.fixed then s.panid else p := by
  unfold linked; split <;> simp

@[simp] theorem unlinked_remote (s : State) : (unlinked s).remote = List.replicate s.cfg.addrW s.cfg.bcast := by
  unfold unlinked; split <;> simp

theorem unlinked_panid (s : State) :
    (unlinked s).panid = if s.fixed then s.panid else List.replicate s.cfg.panW s.cfg.bcast := by
  unfold unlinked; split <;> simp

@[simp] theorem answering_cfg (r : Result) (s : State) : (answering r s).cfg = s.cfg := rfl
@[simp] theorem answering_inited (r : Result) (s : State) : (answering r s).inited = s.inited := rfl
@[simp] theorem answering_remote (r : Result) (s : State) : (answering r s).remote = s.remote := rfl

theorem ret_eq (r : Result) (s : State) : ret r s = .next (answering r s) := rfl

theorem meaning_linkestablish {s : State} {p r : Bytes} (hp : p.length = s.cfg.panW) :
    meaning (.linkestablish p r) s = .next (answering .unit (linked p r s)) := by
  rw [meaning, linkEstablish_eq hp, ret_eq]

/-- `LINKDESTROY` and `DISCONNECT` are one meaning (45_facade_and_status R243). -/
theorem meaning_unlink (s : State) {i : Instr} (h : i = .linkdestroy ∨ i = .disconnect) :
    meaning i s = .next (answering .unit (unlinked s)) := by
  obtain rfl | rfl := h
  all_goals rw [meaning, linkDestroy_eq, ret_eq]

theorem exec_unlink {s : State} (hi : s.inited = true) (hr : s.cfg.role = .ep) {i : Instr}
    (h : i = .linkdestroy ∨ i = .disconnect) : exec i s = .next (answering .unit (unlinked s)) := by
  rw [← meaning_unlink s h]
  obtain rfl | rfl := h
  all_goals exact exec_of_role hi hr rfl rfl

/-- Settles O14: the registers of `linked`, with or without a fixed PAN id and a hook. -/
theorem linkEstablishAdoptsPeer : Obligations.LinkEstablishAdoptsPeer := by
  intro s p r hi hr _ hp hlen
  refine ⟨_, overlaid_writeBytes _ _ _, ?_⟩
  rw [exec_of_role hi hr rfl (by simp [Instr.wellFormed, hp, hlen]), meaning_linkestablish hp]
  unfold linked persisted record answering
  cases s.fixed <;> cases s.hook <;> simp [Memory.writeBytes]

/-- Settles O15: the registers of `unlinked`, with or without a fixed PAN id and a hook. -/
theorem linkDestroyResetsLink : Obligations.LinkDestroyResetsLink := by
  intro s i h hi hr
  refine ⟨_, _, _, rfl, rfl, overlaid_writeBytes _ _ _, ?_⟩
  rw [exec_unlink hi hr h]
  unfold unlinked persisted record answering
  cases s.fixed <;> cases s.hook <;> simp [Memory.writeBytes]

/-- A broadcast `REMOTE` is no link. -/
theorem linkExists_of_remote_replicate {s : State} (h : s.remote = List.replicate s.cfg.addrW s.cfg.bcast) :
    linkExists s = false := by simp [linkExists, isBcast, h]

theorem exec_linkexists_eq {s : State} (hi : s.inited = true) (hr : s.cfg.role = .ep) :
    exec .linkexists s = .next (answering (.bool (linkExists s)) s) := exec_of_role hi hr rfl rfl

theorem unlinked_afEn (s : State) : (unlinked s).afEn = if s.fixed then s.afEn else false := by
  unfold unlinked; split <;> simp

theorem record_unlinked (s : State) : record (unlinked s) =
    [if s.fixed then 1#8 else 0#8] ++ (if s.fixed then s.panid else List.replicate s.cfg.panW s.cfg.bcast) ++
      s.localAddr ++ List.replicate s.cfg.addrW s.cfg.bcast := by simp [record, unlinked_panid]

/-- What is persisted is the record of the state after the link is gone (40_addressing_registry R125). -/
theorem unlinked_nv (s : State) :
    (unlinked s).nv = if s.hook then s.nv.writeBytes 0 (record (unlinked s)) else s.nv := by
  rw [record_unlinked]
  unfold unlinked persisted record
  cases s.fixed <;> cases s.hook <;> rfl

/-- Where the link is gone and so recorded, `LINKDESTROY` writes what is there. -/
theorem unlinked_of_gone {t : State} (hpan : t.fixed = false → t.panid = List.replicate t.cfg.panW t.cfg.bcast)
    (hrem : t.remote = List.replicate t.cfg.addrW t.cfg.bcast) (hafEn : t.fixed = false → t.afEn = false)
    (hnv : t.hook = true → t.nv.writeBytes 0 (record t) = t.nv) :
    { unlinked t with out := [] } = { t with out := [] } := by
  have hpan' : (unlinked t).panid = t.panid := by
    rw [unlinked_panid]; split
    · rfl
    · exact (hpan (Bool.eq_false_of_not_eq_true ‹_›)).symm
  have hafEn' : (unlinked t).afEn = t.afEn := by
    rw [unlinked_afEn]; split
    · rfl
    · exact (hafEn (Bool.eq_false_of_not_eq_true ‹_›)).symm
  have hrec : record (unlinked t) = record t := by simp [record, hpan', hrem]
  have hnv' : (unlinked t).nv = t.nv := by
    rw [unlinked_nv, hrec]; split
    · exact hnv ‹_›
    · rfl
  apply State.ext <;> simp [hpan', hafEn', hnv', hrem]

/-- A second `LINKDESTROY` changes no register (40_addressing_registry R129). -/
theorem unlinked_unlinked (s : State) :
    { unlinked (answering .unit (unlinked s)) with out := [] } =
      { answering .unit (unlinked s) with out := [] } := by
  refine unlinked_of_gone (fun h => ?pan) ?rem (fun h => ?afEn) fun h => ?nv
  case pan =>
    have h : s.fixed = false := by simpa [answering] using h
    simp [answering, unlinked_panid, h]
  case rem => simp
  case afEn =>
    have h : s.fixed = false := by simpa [answering] using h
    simp [answering, unlinked_afEn, h]
  case nv =>
    have h : s.hook = true := by simpa [answering] using h
    have hnv : (answering .unit (unlinked s)).nv = s.nv.writeBytes 0 (record (unlinked s)) :=
      (unlinked_nv s).trans (if_pos h)
    rw [hnv]
    exact Memory.writeBytes_writeBytes_self _ _ _

/-- Settles O16: `LINKEXISTS` after each operation of the life cycle. -/
theorem linkLifeCycle : Obligations.LinkLifeCycle := by
  refine fun s t hr _ => ⟨fun pan addr h l tb ht => ?afterInit, fun p r ht hlink => ?afterLink, fun ht => ?afterUnlink⟩
  case afterInit =>
    obtain ⟨-, hw, ht⟩ := exec_eq_next.mp ht
    simp only [Instr.wellFormed, Bool.and_eq_true, decide_eq_true_eq] at hw
    cases hi : s.inited with
    | true => rw [meaning, initialise_again hi] at ht; cases ht
    | false =>
      rw [meaning, initialise_ep hi hr hw.1, bindOutcome_next, ret_eq] at ht
      cases ht
      exact ⟨_, exec_linkexists_eq rfl hr, congrArg (some ∘ Result.bool) (linkExists_of_remote_replicate rfl)⟩
  case afterLink =>
    obtain ⟨hadm, hw, ht⟩ := exec_eq_next.mp ht
    simp only [Instr.wellFormed, Bool.and_eq_true, decide_eq_true_eq] at hw
    have hi : s.inited = true := by
      by_contra hi
      rw [inputRefusal_preinit (by simpa using hi) rfl] at hadm
      cases hadm
    rw [meaning_linkestablish hw.1] at ht
    cases ht
    have hup : linkExists (answering .unit (linked p r s)) = true :=
      (linkExists_iff _).mpr (by simpa [LinkUp] using hlink)
    exact ⟨_, exec_linkexists_eq (by simpa using hi) (by simpa using hr), congrArg (some ∘ Result.bool) hup⟩
  case afterUnlink =>
    obtain ⟨hadm, -, ht⟩ := exec_eq_next.mp ht
    have hi : s.inited = true := by
      by_contra hi
      rw [inputRefusal_preinit (by simpa using hi) rfl] at hadm
      cases hadm
    rw [meaning_unlink s (.inl rfl)] at ht
    cases ht
    have hi' : (answering .unit (unlinked s)).inited = true := by simpa using hi
    have hr' : (answering .unit (unlinked s)).cfg.role = .ep := by simpa using hr
    refine ⟨⟨_, exec_linkexists_eq hi' hr', ?_⟩, by simp, _, exec_unlink hi' hr' (.inl rfl),
      congrArg (fun u => { u with result := some .unit }) (unlinked_unlinked s)⟩
    exact congrArg (some ∘ Result.bool) (linkExists_of_remote_replicate (by simp))

/-! ### `COMPARE` -/

/-- The first byte in which the two strings differ is the smaller one in `a`. -/
def LexBefore (a b : Bytes) : Prop :=
  ∃ i x y, a.take i = b.take i ∧ a[i]? = some x ∧ b[i]? = some y ∧ x.toNat < y.toNat

theorem not_lexBefore_nil_left (b : Bytes) : ¬ LexBefore [] b := by simp [LexBefore]

theorem lexBefore_cons {x y : Byte} {as bs : Bytes} :
    LexBefore (x :: as) (y :: bs) ↔ x.toNat < y.toNat ∨ (x = y ∧ LexBefore as bs) := by
  constructor
  · rintro ⟨i, u, v, htake, hu, hv, hlt⟩
    cases i with
    | zero =>
      obtain rfl : x = u := by simpa using hu
      obtain rfl : y = v := by simpa using hv
      exact .inl hlt
    | succ i =>
      obtain ⟨hxy, htake⟩ := List.cons.inj htake
      exact .inr ⟨hxy, i, u, v, htake, hu, hv, hlt⟩
  · rintro (hlt | ⟨rfl, i, u, v, htake, hu, hv, hlt⟩)
    · exact ⟨0, x, y, rfl, rfl, rfl, hlt⟩
    · exact ⟨i + 1, u, v, congrArg (x :: ·) htake, hu, hv, hlt⟩

theorem compareBytes_eq_lt {a b : Bytes} (h : a.length = b.length) : compareBytes a b = .lt ↔ LexBefore a b := by
  induction a generalizing b with
  | nil =>
    obtain rfl := List.eq_nil_of_length_eq_zero h.symm
    exact iff_of_false nofun (not_lexBefore_nil_left _)
  | cons x as ih =>
    cases b with
    | nil => cases h
    | cons y bs =>
      rw [lexBefore_cons, compareBytes, ← ih (Nat.succ.inj h)]
      rcases Nat.lt_trichotomy x.toNat y.toNat with hlt | heq | hgt
      · simp [hlt]
      · simp [BitVec.eq_of_toNat_eq heq]
      · simp [Nat.lt_asymm hgt, hgt, show x ≠ y by rintro rfl; omega]

/-- Exchanging the two strings turns the order round. -/
theorem compareBytes_swap (a b : Bytes) : (compareBytes a b).swap = compareBytes b a := by
  induction a generalizing b with
  | nil => cases b <;> rfl
  | cons x as ih =>
    cases b with
    | nil => rfl
    | cons y bs =>
      simp only [compareBytes, apply_ite Ordering.swap, Ordering.swap_lt, Ordering.swap_gt, ih]
      split
      · rw [if_neg (by omega)]
      · rfl

theorem compareBytes_eq_gt {a b : Bytes} (h : a.length = b.length) : compareBytes a b = .gt ↔ LexBefore b a := by
  rw [← compareBytes_eq_lt h.symm, ← compareBytes_swap a b]
  cases compareBytes a b <;> simp

theorem compareBytes_eq_eq {a b : Bytes} : compareBytes a b = .eq ↔ a = b := by
  induction a generalizing b with
  | nil => cases b <;> simp [compareBytes]
  | cons x as ih =>
    cases b with
    | nil => simp [compareBytes]
    | cons y bs =>
      rw [compareBytes, List.cons.injEq, ← ih]
      rcases Nat.lt_trichotomy x.toNat y.toNat with hlt | heq | hgt
      · simp [hlt, show x ≠ y by rintro rfl; omega]
      · simp [BitVec.eq_of_toNat_eq heq]
      · simp [Nat.lt_asymm hgt, hgt, show x ≠ y by rintro rfl; omega]

/-- Settles O17: `compareBytes` is the order by the first differing byte, read both ways. -/
theorem compareIsLexicographic : Obligations.CompareIsLexicographic := by
  intro s a b ha hab
  refine ⟨compareBytes a b, exec_of_beforeInit rfl rfl (by simp [Instr.wellFormed, hab ▸ ha, hab]), compareBytes_eq_eq,
    compareBytes_eq_lt hab, (compareBytes_eq_gt hab).trans ?_⟩
  constructor <;> rintro ⟨i, x, y, htake, hx, hy, hlt⟩ <;> exact ⟨i, y, x, htake.symm, hy, hx, hlt⟩

end Sys2Proof.Machine
end

section
/-! Listening, staging and the status queries (O18, O25, O27, O30, O37), the end of a transmission (O38) and the
sends (O21 to O24), and the round trip of a build (O29). -/

namespace Sys2Proof.Machine

theorem hasRxto_iff (c : Config) : c.hasRxto = true ↔ c.role = .ep ∧ c.rxtoEn = true := by simp [Config.hasRxto]

/-! ### Operations without an outcome to decide -/

/-- Settles O18: an idle `LISTEN` arms. -/
theorem listenArmsReceive : Obligations.ListenArmsReceive := by
  intro s hi hb
  rw [exec_of_both hi rfl rfl, meaning, if_neg (by simp [hb]), armRx_eq, ret]
  simp only [armed, hasRxto_iff]

/-- Settles O25: both codes stage the reference. -/
theorem stagingKeepsAReference : Obligations.StagingKeepsAReference := by
  rintro s ptr n i (rfl | rfl) hi hr
  all_goals exact exec_of_role hi hr rfl rfl

/-- Settles O30: the two length bounds give one cause. -/
theorem rxCheckLengthThenCrc : Obligations.RxCheckLengthThenCrc := by
  intro s n ok hi
  rw [exec_of_both hi rfl rfl, meaning, ret]
  congr 4
  unfold rxCheckOp
  by_cases hlow : n.toNat < s.cfg.hdrLen
  · simp [hlow]
  · cases ok <;> simp [hlow]

/-- A read of `FB` while it holds no defined frame (44_buffer_arbiter R226). -/
theorem readFb_of_undefined {s : State} (h : frameDefined s = false) (off n : Nat) :
    readFb s off n = .refused .uFbUndefined := if_neg (by simp [h])

theorem frameDefined_eq_false_iff (s : State) : frameDefined s = false ↔ s.fbtag = .none ∨ s.fbtag = .rxArmed := by
  unfold frameDefined; cases s.fbtag <;> decide

theorem meaning_getlastsrc_undefined {s : State} (h : frameDefined s = false) :
    meaning .getlastsrc s = .refused .uFbUndefined := by
  rw [meaning, readFb_of_undefined h, bindOutcome_refused]

theorem meaning_getlastseq_undefined {s : State} (h : frameDefined s = false) :
    meaning .getlastseq s = .refused .uFbUndefined := by
  rw [meaning, readFbByte, readFb_of_undefined h, bindOutcome_refused, bindOutcome_refused]

theorem HoldsFrame.meaning_getlastsrc {s : State} {h : Header} {p : Bytes} (H : HoldsFrame s h p) :
    meaning .getlastsrc s = .next (answering (.bytes h.src) s) := by
  rw [meaning, H.readFb_src, bindOutcome_next, ret_eq]

theorem HoldsFrame.meaning_getlastseq {s : State} {h : Header} {p : Bytes} (H : HoldsFrame s h p) :
    meaning .getlastseq s = .next (answering (.byte h.seq) s) := by
  rw [meaning, H.readFbByte_seq, bindOutcome_next, ret_eq]

theorem readLatch_of_valid {s : State} (h : s.lastV = true) (r : Result) :
    readLatch r s = .next (answering r s) := if_pos h

theorem readLatch_of_invalid {s : State} (h : s.lastV = false) (r : Result) :
    readLatch r s = .refused .uLatchUndefined := if_neg (by simp [h])

theorem setWidth_eq_ofNat_toNat (x : BitVec 7) : x.setWidth 8 = BitVec.ofNat 8 x.toNat := by revert x; decide

/-- Settles O27: each query reads its field, or refuses while it is undefined. -/
theorem statusQueriesReadAndKeepState : Obligations.StatusQueriesReadAndKeepState := by
  intro s hi
  have admitted {i : Instr} (hr : onlyRole (admissionCode i) = none) (hw : i.wellFormed s.cfg = true) :
      exec i s = meaning i s := exec_of_both hi hr hw
  refine ⟨admitted rfl rfl, fun h p H => ⟨?_, ?_⟩, fun htag => ?_, fun hv => ⟨?_, ?_, ?_⟩, fun hv => ⟨?_, ?_, ?_⟩⟩
  · exact (admitted rfl rfl).trans H.meaning_getlastsrc
  · exact (admitted rfl rfl).trans H.meaning_getlastseq
  · have hd := (frameDefined_eq_false_iff s).mpr htag
    exact ⟨(admitted rfl rfl).trans (meaning_getlastsrc_undefined hd),
      (admitted rfl rfl).trans (meaning_getlastseq_undefined hd)⟩
  · exact (admitted rfl rfl).trans (readLatch_of_valid hv _)
  · rw [← setWidth_eq_ofNat_toNat]
    exact (admitted rfl rfl).trans (readLatch_of_valid hv _)
  · exact (admitted rfl rfl).trans (readLatch_of_valid hv _)
  all_goals exact (admitted rfl rfl).trans (readLatch_of_invalid hv _)

/-- The timeout handler on an End Point (43_scheduler_fsm R200). -/
theorem timeoutOp_ep {s : State} (hr : s.cfg.role = .ep) :
    timeoutOp s = { s with
      busy := false, st := .idle, fbtag := .none, radio := .lowPower, cause := some .timeout,
      out := s.out ++ (if s.tocb then [.cbTimeout] else []) ++ [.phyLowPower] } := by
  unfold timeoutOp
  cases ht : s.tocb <;> simp [idlePolicy_eq, idled, failWith, emit, hr, ht]

/-- Settles O37: the shared operations in closed form. -/
theorem armIdleAndTimeoutOperations : Obligations.ArmIdleAndTimeoutOperations := by
  intro s hi
  refine ⟨?_, fun hr => ?_, fun hr => ?_, fun hr => ?_⟩
  · rw [exec_of_both hi rfl rfl, meaning, armRx_eq, ret_eq]
  · rw [exec_of_both hi rfl rfl, meaning, idlePolicy_eq, idled_ep hr, ret]
  · rw [exec_of_both hi rfl rfl, meaning, idlePolicy_eq, idled_gw hr, ret_eq]
  · rw [exec_of_role hi hr rfl rfl, meaning, timeoutOp_ep hr, ret]

/-! ### The end of a transmission -/

/-- The state after `EDGE_TX` of a frame whose control byte is `c` (43_scheduler_fsm R188). -/
def txEnded (c : Byte) (s : State) : State :=
  if ctlDrq c then armed s else idled (cbTxDone (completionEntry s))

@[simp] theorem txEnded_freeCtr (c : Byte) (s : State) : (txEnded c s).freeCtr = s.freeCtr := by
  unfold txEnded cbTxDone; split <;> cases s.cfg.role <;> simp [completionEntry] <;> split <;> rfl

theorem transmitDone_eq {s : State} {c : Byte} (hst : s.st = .transmitting)
    (hc : readFbByte s s.cfg.offCtl = .next c) : transmitDone s = .next (txEnded c s) := by
  have hc' : readFbByte (completionEntry s) (completionEntry s).cfg.offCtl = .next c := hc
  rw [transmitDone, if_neg (not_not_intro hst)]
  simp only [hc', bindOutcome_next, armRx_eq, idlePolicy_eq]
  rfl

theorem meaning_edgeTx {s : State} {c : Byte} (hst : s.st = .transmitting)
    (hc : readFbByte s s.cfg.offCtl = .next c) :
    meaning .edgeTx s = .next (returned (Config.edgeStatus s.freeCtr) (txEnded c s)) := by
  rw [meaning, transmitDone_eq hst hc, bindOutcome_next, retStatus_eq, txEnded_freeCtr]

theorem txEnded_request {c : Byte} (h : ctlDrq c = true) (s : State) : txEnded c s = armed s := if_pos h

theorem txEnded_ep {s : State} {c : Byte} (h : ctlDrq c = false) (hr : s.cfg.role = .ep) :
    txEnded c s = { s with
      busy := false, st := .idle, radio := .lowPower,
      out := s.out ++ [.cbFrameCompleteEp [] 0#8, .phyLowPower] } := by
  simp [txEnded, h, cbTxDone, completionEntry, hr, idled, emit]

theorem txEnded_gw {s : State} {c : Byte} (h : ctlDrq c = false) (hr : s.cfg.role = .gw) :
    txEnded c s = idled { s with
      busy := false, st := .idle, out := s.out ++ [.cbFrameCompleteGw false [] 0#8] } := by
  simp [txEnded, h, cbTxDone, completionEntry, hr, emit]

/-! ### Builds and sends -/

theorem ctlDrq_buildCtl (c : Config) (ty : FrameType) (drq : Bool) : ctlDrq (buildCtl c ty drq) = drq :=
  ctlDrq_ctlOf ..

theorem length_of_readFb {s : State} {off n : Nat} {bs : Bytes} (h : readFb s off n = .next bs) : bs.length = n := by
  obtain ⟨-, -, hb⟩ := readFb_eq_next.mp h
  exact ((Memory.readBytes_eq_some ..).mp hb).1

/-- A destination that can be read has the address width. -/
theorem length_of_buildDest {s : State} {d : Bytes} (F : FieldsSized s) (h : buildDest s = .next d) :
    d.length = s.cfg.addrW := by
  unfold buildDest at h
  split at h
  next hr => cases h; exact F.rem hr
  next => exact length_of_readFb h

theorem buildDest_ep {s : State} (hr : s.cfg.role = .ep) : buildDest s = .next s.remote := by
  simp only [buildDest, hr]

/-- The state after the build of a frame to `d` (41_frame_build R147). -/
def builtTo (d : Bytes) (ty : FrameType) (drq : Bool) (p : Bytes) (s : State) : State :=
  built s p (s.fb.writeBytes 0 (builtFrame s d ty drq p))

/-- A built frame is held, with the header it was built from (41_frame_build R151). -/
theorem holdsFrame_builtTo {s : State} {d : Bytes} {ty : FrameType} {drq : Bool} {p : Bytes}
    (hm : s.cfg.maxFrame ≤ 255) (hp : s.panid.length = s.cfg.panW) (hl : s.localAddr.length = s.cfg.addrW)
    (hd : d.length = s.cfg.addrW) (hfit : p.length + s.cfg.hdrLen ≤ s.cfg.maxFrame) :
    HoldsFrame (builtTo d ty drq p s) (buildHeader ty drq d s) p := by
  refine ⟨.inl rfl, hp, hd, hl, toNat_ofNat_length (by omega), by simp only [builtTo, built_cfg]; omega, ?_⟩
  have := Memory.readBytes_writeBytes_self s.fb 0 (builtFrame s d ty drq p)
  rw [builtFrame_length hp hl hd] at this
  rw [← builtFrame_eq]
  exact this

/-- Settles O29: the built frame is held, and its control byte is `buildCtl`. -/
theorem buildThenParseRoundTrip : Obligations.BuildThenParseRoundTrip := by
  intro s t ty drq p hv F hfit ht
  obtain ⟨-, -, -, hm, -⟩ := (Config.valid_iff _).mp hv
  obtain ⟨-, -, ht⟩ := exec_eq_next.mp ht
  rw [meaning, bindOutcome_eq_next] at ht
  obtain ⟨u, hu, ht⟩ := ht
  obtain ⟨d, hdst, -⟩ := bindOutcome_eq_next.mp hu
  have hd := length_of_buildDest F hdst
  rw [buildFrame_eq hdst F.pan F.loc hd hfit] at hu
  cases hu
  cases ht
  have H := holdsFrame_builtTo (ty := ty) (drq := drq) (p := p) hm F.pan F.loc hd hfit
  refine ⟨buildHeader ty drq d s, H.congr rfl rfl rfl rfl, rfl, rfl, rfl, fun hr => ?dst, ctlType_ctlOf .., ctlDrq_ctlOf ..,
    ctlRsv_ctlOf .., ?mode⟩
  case dst =>
    rw [buildDest_ep hr] at hdst
    cases hdst
    rfl
  case mode =>
    simp only [buildHeader, buildCtl, ctlMode_ctlOf]
    cases s.cfg.role <;> decide

/-- Settles O21: the destination is `REMOTE`. -/
theorem endPointSendTransmitsBuiltFrame : Obligations.EndPointSendTransmitsBuiltFrame := by
  intro s ty drq p i h hi hr hv F hb hfit
  obtain ⟨-, -, -, hm, -⟩ := (Config.valid_iff _).mp hv
  refine ⟨_, overlaid_writeBytes _ _ _, ?_⟩
  have hsend := sendResult_of_sendFrame
    (sendFrame_eq (ty := ty) (drq := drq) hb hm (buildDest_ep hr) F.pan F.loc (F.rem hr) hfit)
  obtain rfl | rfl := h
  · rw [exec_send_eq ty drq hi (by omega), hsend]
  · rw [exec_uSend_eq ty drq hi (by omega), hsend]

/-- A Gateway that holds no frame has no destination (92_eei_decisions D40). -/
theorem buildFrame_undefined {s : State} (hr : s.cfg.role = .gw) (hd : frameDefined s = false) (ty : FrameType)
    (drq : Bool) (p : Bytes) : buildFrame ty drq p s = .refused .uFbUndefined := by
  have hdest : buildDest s = .refused .uFbUndefined := by
    simp only [buildDest, hr]
    exact readFb_of_undefined hd _ _
  rw [buildFrame, hdest, bindOutcome_refused]

theorem sendFrame_undefined {s : State} (hr : s.cfg.role = .gw) (hd : frameDefined s = false) (hb : s.busy = false)
    {p : Bytes} (hfit : p.length + s.cfg.hdrLen ≤ s.cfg.maxFrame) (ty : FrameType) (drq : Bool) :
    sendFrame ty drq p s = .refused .uFbUndefined := by
  rw [sendFrame, if_neg (by simp [hb]), if_neg (by omega), buildFrame_undefined hr hd, bindOutcome_refused]

/-- Settles O22: the destination is the source field of the held frame, read before the build. -/
theorem gatewaySendAnswersLastSource : Obligations.GatewaySendAnswersLastSource := by
  intro s ty drq p i h hi hr hv F hb hfit
  obtain ⟨-, -, -, hm, -⟩ := (Config.valid_iff _).mp hv
  have hexec : exec i s = sendResult ty drq p s := by
    obtain rfl | rfl := h
    · exact exec_send_eq ty drq hi (by omega)
    · exact exec_uSend_eq ty drq hi (by omega)
  refine ⟨fun h q H => ⟨_, overlaid_writeBytes _ _ _, ?held⟩, fun htag => ?undefined⟩
  case held =>
    rw [hexec]
    exact sendResult_of_sendFrame
      (sendFrame_eq hb hm (by simp [buildDest, hr, H.readFb_src]) F.pan F.loc H.srcW hfit)
  case undefined =>
    have hd := (frameDefined_eq_false_iff s).mpr (.inl htag)
    rw [hexec, sendResult, sendFrame_undefined hr hd hb hfit, exec_of_both (i := .frameBuild ty drq p) hi rfl
      (decide_eq_true (by omega)), meaning, buildFrame_undefined hr hd]
    exact ⟨rfl, rfl⟩

/-! ### The façade's sends -/

section Facade

variable {s : State} {p : Bytes} {ty : FrameType} {drq : Bool}

/-- The state an End Point's send leaves: the frame built to `REMOTE` and the Physical Bridge's answer. -/
def epSent (ty : FrameType) (drq : Bool) (p : Bytes) (s : State) : State :=
  answered (builtTo s.remote ty drq p s) (builtFrame s s.remote ty drq p)

theorem sendFrame_ep (hr : s.cfg.role = .ep) (hv : s.cfg.valid = true) (F : FieldsSized s) (hb : s.busy = false)
    (hfit : p.length + s.cfg.hdrLen ≤ s.cfg.maxFrame) :
    sendFrame ty drq p s = .next (s.phyAccept, epSent ty drq p s) := by
  obtain ⟨-, -, -, hm, -⟩ := (Config.valid_iff _).mp hv
  exact sendFrame_eq hb hm (buildDest_ep hr) F.pan F.loc (F.rem hr) hfit

/-- The completion event of an accepted send sees the frame the send built. -/
theorem exec_edgeTx_epSent (hi : s.inited = true) (hr : s.cfg.role = .ep) (hv : s.cfg.valid = true)
    (F : FieldsSized s) (hfit : p.length + s.cfg.hdrLen ≤ s.cfg.maxFrame) (hacc : s.phyAccept = true) (r : Result) :
    exec .edgeTx (answering r (epSent ty drq p s)) =
      .next (returned (Config.edgeStatus s.freeCtr)
        (txEnded (buildCtl s.cfg ty drq) (answering r (epSent ty drq p s)))) := by
  obtain ⟨-, -, -, hm, -⟩ := (Config.valid_iff _).mp hv
  have H := holdsFrame_builtTo (ty := ty) (drq := drq) hm F.pan F.loc (F.rem hr) hfit
  have H' : HoldsFrame (answering r (epSent ty drq p s)) (buildHeader ty drq s.remote s) p :=
    H.congr (answered_cfg _ _) (answered_fb _ _) (answered_fbtag _ _) (answered_len _ _)
  have hst : (answering r (epSent ty drq p s)).st = .transmitting := by
    simp [answering, epSent, answered, builtTo, hacc]
  have hfree : (answering r (epSent ty drq p s)).freeCtr = s.freeCtr := answered_freeCtr _ _
  have hinit : (answering r (epSent ty drq p s)).inited = true := (answered_inited _ _).trans hi
  rw [exec_of_both hinit rfl rfl, meaning_edgeTx hst H'.readFbByte_ctl, hfree]
  rfl

end Facade

/-- Settles O23: the cases of `Send`, and the completion event of a frame without a request. -/
theorem simpleTransferSendsOneWay : Obligations.SimpleTransferSendsOneWay := by
  intro s p hi hp
  refine ⟨fun hr => exec_wrongRole hi rfl (by rw [hr]; decide), fun hr hv F => ⟨fun hb => ?busy, fun hlong => ?long,
    fun hb hfit => ?sent⟩⟩
  case busy => exact ⟨_, by rw [exec_simpletransfer_eq hi hr hp, sendResult_of_sendFrame (sendFrame_busy hb)], rfl⟩
  case long =>
    cases hb : s.busy with
    | true => exact ⟨_, by rw [exec_simpletransfer_eq hi hr hp, sendResult_of_sendFrame (sendFrame_busy hb)], rfl⟩
    | false =>
      exact ⟨_, by rw [exec_simpletransfer_eq hi hr hp, sendResult_of_sendFrame (sendFrame_tooLong hb hlong)], rfl⟩
  case sent =>
    refine ⟨_, _, overlaid_writeBytes _ _ _, ?_, rfl, fun hacc => ?completed⟩
    · rw [exec_simpletransfer_eq hi hr hp]
      exact sendResult_of_sendFrame (sendFrame_ep hr hv F hb hfit)
    case completed =>
      refine ⟨_, exec_edgeTx_epSent hi hr hv F hfit hacc _, ?_⟩
      rw [txEnded_ep (ctlDrq_buildCtl ..) ((answered_cfg _ _).symm ▸ hr)]
      exact ⟨rfl, rfl, rfl⟩

/-- Settles O24: both commands with and without a link, and the completion event of a frame that requests data. -/
theorem connectAndTransfer : Obligations.ConnectAndTransfer := by
  intro s p hi hr hv F hp
  refine ⟨fun hl => ?connected, fun hl hb hfit => ⟨_, overlaid_writeBytes _ _ _, ?connects⟩, fun hl => ?noLink,
    fun hl hb hfit => ⟨_, _, overlaid_writeBytes _ _ _, ?transfers, rfl, fun hacc => ?completed⟩⟩
  case connected =>
    rw [exec_of_role (i := .connect p) hi hr rfl (decide_eq_true hp), meaning, if_pos ((linkExists_iff s).mpr hl), ret]
  case connects =>
    rw [exec_connect_unlinked hi hr hp hl, sendFrame_ep hr hv F hb hfit, bindOutcome_next, ret_eq]
    rfl
  case noLink =>
    rw [exec_of_role (i := .transfer p) hi hr rfl (decide_eq_true hp), meaning, if_neg (mt (linkExists_iff s).mp hl), ret]
  case transfers =>
    rw [exec_transfer_linked hi hr hp hl]
    exact sendResult_of_sendFrame (sendFrame_ep hr hv F hb hfit)
  case completed =>
    refine ⟨_, exec_edgeTx_epSent hi hr hv F hfit hacc _, ?_⟩
    rw [txEnded_request (ctlDrq_buildCtl ..)]
    exact ⟨rfl, rfl⟩

end Sys2Proof.Machine

namespace Sys2Proof

open Machine

/-- Settles O38: the data-request bit of the sent frame decides. -/
theorem transmitDone : Obligations.TransmitDone := by
  intro s c hi hv hst htag hc
  have hread : readFbByte s s.cfg.offCtl = .next c :=
    readFbByte_of_read (by simp [frameDefined, htag]) (Config.offCtl_lt_maxFrame hv) hc
  have hexec := (exec_of_both (i := .edgeTx) hi rfl rfl).trans (meaning_edgeTx hst hread)
  refine ⟨Config.edgeStatus s.freeCtr, fun hd => ?_, fun hd hr => ?_, fun hd hr => ?_⟩
  · rw [hexec, txEnded_request hd]
  · rw [hexec, txEnded_ep hd hr]
  · rw [hexec, txEnded_gw hd hr]

end Sys2Proof
end

section
/-! The End Point's filter (O32), and what each verdict leads to. -/

namespace Sys2Proof.Machine

/-! ### The filters, case by case -/

theorem not_linkExists_iff (s : State) : linkExists s = false ↔ ¬ LinkUp s := by
  rw [← linkExists_iff, Bool.not_eq_true]

theorem classifyCtl_eq_data {c : Config} {b : Byte} : classifyCtl c b = .data ↔ ctlType b = 0#2 := by
  unfold classifyCtl; split <;> [simp_all; (split <;> simp_all)]

theorem classifyCtl_eq_linkReq {c : Config} {b : Byte} :
    classifyCtl c b = .linkReq ↔ ctlType b = c.linkreqCode ∧ c.linkreqCode ≠ 0#2 := by
  unfold classifyCtl
  split
  next h => simp only [h, reduceCtorEq, false_iff, not_and, not_not]; exact Eq.symm
  next h => split <;> simp_all

theorem classifyCtl_eq_reserved {c : Config} {b : Byte} :
    classifyCtl c b = .reserved ↔ ctlType b ≠ 0#2 ∧ ctlType b ≠ c.linkreqCode := by
  unfold classifyCtl; split <;> [simp_all; (split <;> simp_all)]

section Filters

variable {s : State} {h : Header}

theorem validateOp_ep (hr : s.cfg.role = .ep) : validateOp s h = validateEpOp s h := by simp only [validateOp, hr]

theorem validateOp_gw (hr : s.cfg.role = .gw) : validateOp s h = validateGwOp s h := by simp only [validateOp, hr]

theorem validateEpOp_rMode (hm : ctlMode h.ctl = false) : validateEpOp s h = some .rMode := if_pos hm

theorem validateEpOp_rDest (hm : ctlMode h.ctl = true) (hd : h.dst ≠ s.localAddr) :
    validateEpOp s h = some .rDest := by
  rw [validateEpOp, if_neg (by simp [hm]), if_pos hd]

/-- The exception of R166: a Link-Request may come from another PAN where the End Point has no link and no fixed PAN
id. -/
def MayAdopt (s : State) (h : Header) : Prop :=
  classifyCtl s.cfg h.ctl = .linkReq ∧ ¬ LinkUp s ∧ s.fixed = false

/-- Past the mode and the destination: the own PAN id, or the exception. -/
theorem validateEpOp_eq_none (hm : ctlMode h.ctl = true) (hd : h.dst = s.localAddr)
    (hp : h.pan = s.panid ∨ MayAdopt s h) : validateEpOp s h = none := by
  rw [validateEpOp, if_neg (by simp [hm]), if_neg (not_not_intro hd)]
  split
  · rfl
  next hne =>
    obtain ⟨hc, hl, hf⟩ := hp.resolve_left hne
    exact if_pos ⟨hc, (not_linkExists_iff s).mpr hl, hf⟩

theorem validateEpOp_rPan (hm : ctlMode h.ctl = true) (hd : h.dst = s.localAddr) (hp : h.pan ≠ s.panid)
    (ha : ¬ MayAdopt s h) : validateEpOp s h = some .rPan := by
  rw [validateEpOp, if_neg (by simp [hm]), if_neg (not_not_intro hd), if_neg hp]
  exact if_neg fun ⟨hc, hl, hf⟩ => ha ⟨hc, (not_linkExists_iff s).mp hl, hf⟩

/-- What keeps a frame from the exception. -/
theorem not_mayAdopt (h' : ctlType h.ctl ≠ s.cfg.linkreqCode ∨ LinkUp s ∨ s.fixed = true) : ¬ MayAdopt s h := by
  rintro ⟨hc, hl, hf⟩
  obtain ht | hup | hfix := h'
  · exact ht (classifyCtl_eq_linkReq.mp hc).1
  · exact hl hup
  · rw [hf] at hfix; cases hfix

/-- A Gateway takes a frame to itself or to everybody, on its own PAN or on every one (42_frame_validate R167). -/
theorem validateGwOp_eq_none (hm : ctlMode h.ctl = false) (hd : h.dst = s.localAddr ∨ ∀ b ∈ h.dst, b = s.cfg.bcast)
    (hp : h.pan = s.panid ∨ ∀ b ∈ h.pan, b = s.cfg.bcast) : validateGwOp s h = none := by
  rw [validateGwOp_of_dest hm (hd.imp_right (isBcast_iff_forall ..).mpr)]
  refine if_neg fun ⟨hne, hb⟩ => ?_
  rw [(isBcast_iff_forall ..).mpr (hp.resolve_left hne)] at hb
  cases hb

theorem validateGwOp_rPan (hm : ctlMode h.ctl = false) (hd : h.dst = s.localAddr ∨ ∀ b ∈ h.dst, b = s.cfg.bcast)
    (hp : h.pan ≠ s.panid) (hb : ∃ b ∈ h.pan, b ≠ s.cfg.bcast) : validateGwOp s h = some .rPan := by
  rw [validateGwOp_of_dest hm (hd.imp_right (isBcast_iff_forall ..).mpr)]
  exact if_pos ⟨hp, (isBcast_false_iff_exists ..).mpr hb⟩

end Filters

/-- Settles O32: the tests in the order of the pseudocode, mode, destination, PAN id with its exception. -/
theorem endPointFilter : Obligations.EndPointFilter := by
  intro s h p hi hr H
  refine ⟨validateEpOp s h, validateOp_ep hr ▸ H.exec_filter hi (.inl ⟨hr, rfl⟩), validateEpOp_rMode, validateEpOp_rDest,
    fun hm hd hp => validateEpOp_eq_none hm hd (.inl hp), fun hm hd hp => ⟨fun ⟨ht, hl, hup, hf⟩ => ?_, fun ha => ?_⟩⟩
  · exact validateEpOp_eq_none hm hd (.inr ⟨classifyCtl_eq_linkReq.mpr ⟨ht, hl⟩, hup, hf⟩)
  · exact validateEpOp_rPan hm hd hp (not_mayAdopt ha)

/-! ### What follows the filter -/

section Processed

variable {s : State} {h : Header} {p : Bytes}

/-- A frame the filter or the type check rejects, with the cause. -/
def Rejected (s : State) (h : Header) (c : RejectCause) : Prop :=
  validateOp s h = some c ∨ (validateOp s h = none ∧ classifyCtl s.cfg h.ctl = .reserved ∧ c = .rType)

theorem HoldsFrame.processFrame_rejected (H : HoldsFrame s h p) {c : RejectCause} (hc : Rejected s h c) :
    processFrame s = .next (idled { s with cause := some (.reject c) }) := by
  rw [processFrame_eq H]
  obtain hv | ⟨hv, ht, rfl⟩ := hc
  · simp only [hv]
  · simp only [hv, ht]

theorem HoldsFrame.processFrame_data (H : HoldsFrame s h p) (hv : validateOp s h = none)
    (ht : classifyCtl s.cfg h.ctl = .data) : processFrame s = dispatchDataOp s := by
  rw [processFrame_eq H]
  simp only [hv, ht]

theorem HoldsFrame.processFrame_link (H : HoldsFrame s h p) (hv : validateOp s h = none)
    (ht : classifyCtl s.cfg h.ctl = .linkReq) : processFrame s = dispatchLinkOp s := by
  rw [processFrame_eq H]
  simp only [hv, ht]

end Processed

end Sys2Proof.Machine
end

section
/-! Dispatch as operations of its own (O35, O36). -/

namespace Sys2Proof.Machine

/-- Settles O35: the dispatch of a held Data frame on each role. -/
theorem dispatchDataConsumesRequestBit : Obligations.DispatchDataConsumesRequestBit := by
  refine fun s h p hi H => ⟨fun hr => ?ep, fun hr hn => ?silent, fun hr hv F hb hd h0 hfit => ?answer⟩
  case ep =>
    refine ⟨_, overlaid_writeBytes _ _ _, ?_⟩
    rw [exec_dispatchData_of_next hi (dispatchDataOp_ep H hr), idled_ep (by exact hr), answering]
    simp only [List.append_assoc, List.cons_append, List.nil_append]
    rfl
  case silent => exact exec_dispatchData_of_next hi (dispatchDataOp_gw H hr hn)
  case answer =>
    obtain ⟨q, m1, m, t, hq, hm1, hm, ht, hrun⟩ := dispatchDataOp_turnaround H hr hv F hb hd h0 hfit
    exact ⟨q, m1, m, t, hq, hm1, hm, ht, exec_dispatchData_of_next hi hrun⟩

theorem exec_dispatchLinkRequest_of_next {s t : State} (hi : s.inited = true) (h : dispatchLinkOp s = .next t) :
    exec .dispatchLinkRequest s = .next (answering .unit t) := by
  rw [exec_of_both hi rfl rfl, meaning, h, bindOutcome_next, ret_eq]

/-- Settles O36: the dispatch of a held Link-Request on each role. -/
theorem linkRequestsAreDispatched : Obligations.LinkRequestsAreDispatched := by
  refine fun s u h p hi H => ⟨fun hr => ?ep, fun hr hv F hb hu => ⟨fun hl ha => ?denied, fun hl => ?accepted⟩⟩
  case ep => exact exec_dispatchLinkRequest_of_next hi (dispatchLinkOp_ep H hr)
  case denied =>
    subst hu
    rw [exec_dispatchLinkRequest_of_next hi (dispatchLinkOp_denied H hr hl ha), if_pos hl]
  case accepted =>
    subst hu
    obtain ⟨m, t, hm, ht, hrun⟩ := dispatchLinkOp_accepted H hr hv F hb hl
    exact ⟨m, t, hm, ht, exec_dispatchLinkRequest_of_next hi hrun⟩

end Sys2Proof.Machine
end

section
/-! Frame classes as operations (O47 to O49): the class's control byte is stored, and the frame is processed with it
(log 6). -/

namespace Sys2Proof.Machine

/-- A control byte as the arithmetic of 30_encoding R93. -/
theorem ctlOf_eq (ty : BitVec 2) (rsv : BitVec 4) (drq mode : Bool) :
    ctlOf ty rsv drq mode = (ty.setWidth 8 <<< 6) ||| (rsv.setWidth 8 <<< 2) ||| (if drq then 0x02#8 else 0#8) |||
      (if mode then 0x01#8 else 0#8) := by
  revert ty rsv drq mode; decide

/-- A Data byte with its request cleared. -/
theorem ctlOf_data_cleared (rsv : BitVec 4) (drq mode : Bool) :
    ctlOf 0#2 rsv drq mode &&& 0xFD#8 = (rsv.setWidth 8 <<< 2) ||| (if mode then 0x01#8 else 0#8) := by
  revert rsv drq mode; decide

/-- The byte that stands where two were stored is the last. -/
theorem Overlaid.overwrite {m0 m1 m : Memory} {off : Nat} {a b : Byte} (h1 : Overlaid m0 off [a] m1)
    (h : Overlaid m1 off [b] m) : Overlaid m0 off [b] m := by
  intro x
  rw [h x, h1 x]
  simp only [List.length_singleton]
  split <;> rfl

/-- A Gateway's idle policy arms a receive, after which `FB` holds no value, whatever it held (44_buffer_arbiter
R221). -/
theorem idled_gw_congr {s t : State} (hr : s.cfg.role = .gw) (h : { t with fb := [] } = { s with fb := [] }) :
    idled t = idled s := by
  have blank (u : State) (hu : u.cfg.role = .gw) : idled u = idled { u with fb := [] } := by
    rw [idled_gw hu, idled_gw (by exact hu)]; rfl
  have hc : t.cfg = s.cfg := (congrArg State.cfg h :)
  rw [blank t (hc ▸ hr), h, ← blank s hr]

section Classes

variable {s : State} {h : Header} {p : Bytes}

theorem meaning_frameClass {i : Instr} (hc : i.isFrameClass = true) {b : Byte} (he : encode s.cfg i = [b]) :
    admissionCode i = 0xFF#8 ∧ meaning i s = bindOutcome (frameArrived b s) (ret .unit) := by
  cases i with
  | fDataEp | fDataGw | fLinkreqEp | fLinkreqGw | fReserved => cases he; exact ⟨rfl, rfl⟩
  | _ => cases hc

/-- A frame class with a held frame: the stored frame is processed with the class's control byte. -/
theorem HoldsFrame.exec_frameClass (H : HoldsFrame s h p) (hi : s.inited = true) {i : Instr}
    (hc : i.isFrameClass = true) (hw : i.wellFormed s.cfg = true) {b : Byte} (he : encode s.cfg i = [b]) {t : State}
    (ht : processFrame { s with fb := s.fb.writeBytes s.cfg.offCtl [b] } = .next t) :
    exec i s = .next (answering .unit t) := by
  obtain ⟨hcode, hmeaning⟩ := meaning_frameClass hc he
  rw [exec_of_both hi (by rw [hcode]; rfl) hw, hmeaning, frameArrived_eq H, ht, bindOutcome_next, ret_eq]

end Classes

/-- Settles O47: a frame of Gateway origin on an End Point, past the filter. -/
theorem endPointDispatchesGatewayClasses : Obligations.EndPointDispatchesGatewayClasses := by
  intro s h p rsv drq hi hr hv H hd
  obtain ⟨-, -, -, -, hl, -⟩ := (Config.valid_iff _).mp hv
  refine ⟨fun hp => ?data, fun hp => ?link⟩
  case data =>
    have H' := H.setCtl (ctlOf 0#2 rsv drq true)
    have hacc : validateOp { s with fb := s.fb.writeBytes s.cfg.offCtl [ctlOf 0#2 rsv drq true] }
        { h with ctl := ctlOf 0#2 rsv drq true } = none :=
      (validateOp_ep (by exact hr)).trans (validateEpOp_eq_none (ctlMode_ctlOf ..) hd (.inl hp))
    have hrun := (H'.processFrame_data hacc (classifyCtl_eq_data.mpr (ctlType_ctlOf ..))).trans
      (dispatchDataOp_ep H' (by exact hr))
    refine ⟨_, (overlaid_writeBytes _ _ [ctlOf 0#2 rsv drq true]).overwrite (overlaid_writeBytes _ s.cfg.offCtl _), ?_⟩
    rw [H.exec_frameClass hi rfl rfl rfl hrun, ctlOf_data_cleared, idled_ep (by exact hr), answering]
    simp only [List.append_assoc, List.cons_append, List.nil_append]
    rfl
  case link =>
    have H' := H.setCtl (ctlOf s.cfg.linkreqCode rsv drq true)
    have hclass : classifyCtl s.cfg (ctlOf s.cfg.linkreqCode rsv drq true) = .linkReq :=
      classifyCtl_eq_linkReq.mpr ⟨ctlType_ctlOf .., hl⟩
    have hacc : validateOp { s with fb := s.fb.writeBytes s.cfg.offCtl [ctlOf s.cfg.linkreqCode rsv drq true] }
        { h with ctl := ctlOf s.cfg.linkreqCode rsv drq true } = none :=
      (validateOp_ep (by exact hr)).trans
        (validateEpOp_eq_none (ctlMode_ctlOf ..) hd (hp.imp_right fun ⟨hup, hf⟩ => ⟨hclass, hup, hf⟩))
    have hrun := (H'.processFrame_link hacc hclass).trans (dispatchLinkOp_ep H' (by exact hr))
    refine ⟨_, overlaid_writeBytes _ _ _, ?_⟩
    rw [H.exec_frameClass hi rfl rfl rfl hrun, ctlOf_eq]
    rfl

section GatewayClasses

variable {s : State} {h : Header} {p : Bytes}

/-- A Gateway takes a held frame of End Point origin that passes its filter, whatever control byte is stored. -/
theorem gatewayAccepts_setCtl (hr : s.cfg.role = .gw) (hd : h.dst = s.localAddr ∨ ∀ b ∈ h.dst, b = s.cfg.bcast)
    (hp : h.pan = s.panid ∨ ∀ b ∈ h.pan, b = s.cfg.bcast) {b : Byte} (hm : ctlMode b = false) (m : Memory) :
    validateOp { s with fb := m } { h with ctl := b } = none :=
  (validateOp_gw (by exact hr)).trans (validateGwOp_eq_none hm hd hp)

theorem FieldsSized.setFb (F : FieldsSized s) (m : Memory) : FieldsSized { s with fb := m } := ⟨F.pan, F.loc, F.rem⟩

end GatewayClasses

/-- Settles O48: a frame of End Point origin on a Gateway, past the filter: the dispatch of the frame with the class's
control byte. -/
theorem gatewayDispatchesEndPointClasses : Obligations.GatewayDispatchesEndPointClasses := by
  intro s h p rsv drq hi hr hv F hb H hd hp
  obtain ⟨-, -, -, -, hl, -⟩ := (Config.valid_iff _).mp hv
  have HD := H.setCtl (ctlOf 0#2 rsv drq false)
  have HL := H.setCtl (ctlOf s.cfg.linkreqCode rsv drq false)
  have data := HD.processFrame_data (gatewayAccepts_setCtl hr hd hp (ctlMode_ctlOf ..) _)
    (classifyCtl_eq_data.mpr (ctlType_ctlOf ..))
  have link := HL.processFrame_link (gatewayAccepts_setCtl hr hd hp (ctlMode_ctlOf ..) _)
    (classifyCtl_eq_linkReq.mpr ⟨ctlType_ctlOf .., hl⟩)
  have hdrq : (ctlOf 0#2 rsv drq false).getLsbD 1 = drq := ctlDrq_ctlOf ..
  refine ⟨fun hn => ?silent, fun hq h0 hfit => ?answer, fun hq h0 hlong => ?long, fun hc ha => ?denied,
    fun hc => ?accepted⟩
  case silent =>
    rw [H.exec_frameClass hi rfl rfl rfl (data.trans (dispatchDataOp_gw HD (by exact hr) (by rwa [hdrq]))), hdrq]
    exact congrArg (Host.Outcome.next ∘ answering .unit) (idled_gw_congr (by exact hr) rfl)
  case answer =>
    subst hq
    obtain ⟨q, m1, m, t, hq, hm1, hm, ht, hrun⟩ :=
      dispatchDataOp_turnaround HD hr hv (F.setFb _) hb (ctlDrq_ctlOf ..) h0 hfit
    have hm1' : Overlaid s.fb s.cfg.offCtl [rsv.setWidth 8 <<< 2] m1 := by
      simpa [ctlOf_data_cleared] using (overlaid_writeBytes _ _ _).overwrite hm1
    exact ⟨q, m1, m, t, ⟨hq.len, hq.told⟩, hm1', hm, ht,
      H.exec_frameClass hi rfl rfl rfl (data.trans hrun)⟩
  case long =>
    subst hq
    rw [H.exec_frameClass hi rfl rfl rfl (data.trans (dispatchDataOp_tooLong HD hr hb (ctlDrq_ctlOf ..) h0 hlong))]
    exact congrArg (Host.Outcome.next ∘ answering .unit) (idled_gw_congr (by exact hr) rfl)
  case denied =>
    rw [H.exec_frameClass hi rfl rfl rfl (link.trans (dispatchLinkOp_denied HL hr hc ha))]
    exact congrArg (Host.Outcome.next ∘ answering .unit) (idled_gw_congr (by exact hr) rfl)
  case accepted =>
    obtain ⟨m, t, hm, ht, hrun⟩ := dispatchLinkOp_accepted HL hr hv (F.setFb _) hb hc
    have hm1 : Overlaid s.fb s.cfg.offCtl
        [(s.cfg.linkreqCode.setWidth 8 <<< 6) ||| (rsv.setWidth 8 <<< 2) ||| (if drq then 0x02#8 else 0#8)]
        (s.fb.writeBytes s.cfg.offCtl [ctlOf s.cfg.linkreqCode rsv drq false]) := by
      simpa [ctlOf_eq] using overlaid_writeBytes s.fb s.cfg.offCtl [ctlOf s.cfg.linkreqCode rsv drq false]
    exact ⟨_, m, t, hm1, hm, ht, H.exec_frameClass hi rfl rfl rfl (link.trans hrun)⟩

/-- Settles O49: a reserved type passes the filter and no further, and a frame of the own role not even that. -/
theorem otherFrameClassesAreRejected : Obligations.OtherFrameClassesAreRejected := by
  intro s h p rsv drq hi hv H
  refine ⟨fun ty h0 hl hd hp => ?reserved, fun i hown => ?ownRole⟩
  case reserved =>
    have hmode : ctlMode (ctlOf ty rsv drq (decide (s.cfg.role = .ep))) = decide (s.cfg.role = .ep) := ctlMode_ctlOf ..
    have hacc (m : Memory) : validateOp { s with fb := m }
        { h with ctl := ctlOf ty rsv drq (decide (s.cfg.role = .ep)) } = none := by
      cases hr : s.cfg.role with
      | ep => exact (validateOp_ep (by exact hr)).trans (validateEpOp_eq_none (ctlMode_ctlOf ..) hd (.inl hp))
      | gw => exact (validateOp_gw (by exact hr)).trans (validateGwOp_eq_none (ctlMode_ctlOf ..) (.inl hd) (.inl hp))
    have hclass : classifyCtl s.cfg (ctlOf ty rsv drq (decide (s.cfg.role = .ep))) = .reserved :=
      classifyCtl_eq_reserved.mpr (by rw [ctlType_ctlOf]; exact ⟨h0, hl⟩)
    refine ⟨_, overlaid_writeBytes _ _ _, ?_⟩
    rw [H.exec_frameClass hi rfl (by simp [Instr.wellFormed, h0, hl]) rfl
      ((H.setCtl _).processFrame_rejected (.inr ⟨hacc _, hclass, rfl⟩)), ctlOf_eq]
    simp only [decide_eq_true_eq]
    rfl
  case ownRole =>
    have hbyte : ∃ b, encode s.cfg i = [b] ∧ i.isFrameClass = true ∧ i.wellFormed s.cfg = true ∧
        ∀ m, validateOp { s with fb := m } { h with ctl := b } = some .rMode := by
      obtain ⟨hr, rfl | rfl⟩ | ⟨hr, rfl | rfl⟩ := hown
      · exact ⟨_, rfl, rfl, rfl, fun _ => (validateOp_ep (by exact hr)).trans (validateEpOp_rMode (ctlMode_ctlOf ..))⟩
      · exact ⟨_, rfl, rfl, rfl, fun _ => (validateOp_ep (by exact hr)).trans (validateEpOp_rMode (ctlMode_ctlOf ..))⟩
      · exact ⟨_, rfl, rfl, rfl, fun _ => (validateOp_gw (by exact hr)).trans (validateGwOp_rMode (ctlMode_ctlOf ..))⟩
      · exact ⟨_, rfl, rfl, rfl, fun _ => (validateOp_gw (by exact hr)).trans (validateGwOp_rMode (ctlMode_ctlOf ..))⟩
    obtain ⟨b, he, hc, hw, hrej⟩ := hbyte
    exact ⟨_, b, he, overlaid_writeBytes _ _ _,
      H.exec_frameClass hi hc hw he ((H.setCtl b).processFrame_rejected (.inl (hrej _)))⟩

end Sys2Proof.Machine
end

section
/-! `EDGE_RX` (O39 to O44): an envelope that carries a frame is held in `FB`, and the frame is then processed with the
registers as they were. -/

namespace Sys2Proof.Machine

/-! ### A frame taken from the air -/

/-- The state an `EDGE_RX` has reached when the frame with header `h` and payload `p` is in `FB`, before any check. -/
def filled (s : State) (h : Header) (p : Bytes) (rssi lq : Byte) : State :=
  received s (s.cfg.hdrLen + p.length) rssi lq (s.fb.writeBytes 0 (headerBytes h ++ p))

@[simp] theorem received_cfg (s : State) (n : Nat) (rssi lq : Byte) (m : Memory) :
    (received s n rssi lq m).cfg = s.cfg := rfl

section Filled

variable {s : State} {h : Header} {p : Bytes} {rssi lq : Byte}

theorem filled_len (hfit : s.cfg.hdrLen + p.length ≤ s.cfg.maxFrame) :
    (filled s h p rssi lq).len = BitVec.ofNat 8 p.length := by
  simp [filled, received, hfit]

/-- The filter reads registers that a reception does not write. -/
theorem validateOp_filled : validateOp (filled s h p rssi lq) h = validateOp s h :=
  validateOp_congr rfl rfl rfl rfl rfl rfl rfl rfl rfl

theorem FieldsSized.filled (F : FieldsSized s) : FieldsSized (filled s h p rssi lq) := ⟨F.pan, F.loc, F.rem⟩

theorem exec_edgeRx_of_next {env : Bytes} {t : State} (hi : s.inited = true) (h : receiveDone env s = .next t) :
    ∃ v, exec (.edgeRx env) s = .next (returned v t) :=
  ⟨_, by rw [exec_of_both hi rfl rfl, meaning, h, bindOutcome_next, retStatus_eq]⟩

/-- A frame with its CRC right is processed. -/
theorem receiveDone_of_processFrame (hv : s.cfg.valid = true) (hst : s.st = .listening) (hf : h.Fits s.cfg)
    (hfit : s.cfg.hdrLen + p.length ≤ s.cfg.maxFrame) (hlq : 128 ≤ lq.toNat) :
    receiveDone (envelopeOf h p rssi lq) s = processFrame (filled s h p rssi lq) := by
  rw [receiveDone_envelopeOf hst hv hf hfit, if_pos hlq]
  rfl

theorem receiveDone_rejected (hv : s.cfg.valid = true) (hst : s.st = .listening) (hf : h.Fits s.cfg)
    (hfit : s.cfg.hdrLen + p.length ≤ s.cfg.maxFrame) (hlq : 128 ≤ lq.toNat) {c : RejectCause}
    (hc : Rejected s h c) :
    receiveDone (envelopeOf h p rssi lq) s =
      .next (idled { filled s h p rssi lq with cause := some (.reject c) }) := by
  rw [receiveDone_of_processFrame hv hst hf hfit hlq]
  exact (holdsFrame_received hv hf hfit).processFrame_rejected
    (hc.imp validateOp_filled.trans (And.imp_left validateOp_filled.trans))

theorem receiveDone_data (hv : s.cfg.valid = true) (hst : s.st = .listening) (hf : h.Fits s.cfg)
    (hfit : s.cfg.hdrLen + p.length ≤ s.cfg.maxFrame) (hlq : 128 ≤ lq.toNat) (hacc : validateOp s h = none)
    (ht : classifyCtl s.cfg h.ctl = .data) :
    receiveDone (envelopeOf h p rssi lq) s = dispatchDataOp (filled s h p rssi lq) := by
  rw [receiveDone_of_processFrame hv hst hf hfit hlq]
  exact (holdsFrame_received hv hf hfit).processFrame_data (validateOp_filled.trans hacc) ht

theorem receiveDone_link (hv : s.cfg.valid = true) (hst : s.st = .listening) (hf : h.Fits s.cfg)
    (hfit : s.cfg.hdrLen + p.length ≤ s.cfg.maxFrame) (hlq : 128 ≤ lq.toNat) (hacc : validateOp s h = none)
    (ht : classifyCtl s.cfg h.ctl = .linkReq) :
    receiveDone (envelopeOf h p rssi lq) s = dispatchLinkOp (filled s h p rssi lq) := by
  rw [receiveDone_of_processFrame hv hst hf hfit hlq]
  exact (holdsFrame_received hv hf hfit).processFrame_link (validateOp_filled.trans hacc) ht

end Filled

/-- A stored frame whose control byte is then stored anew is the frame with that control byte. -/
theorem Overlaid.setCtl {c : Config} {h : Header} {p : Bytes} {m0 m1 m : Memory} {b : Byte} (hf : h.Fits c)
    (h1 : Overlaid m0 0 (headerBytes h ++ p) m1) (h2 : Overlaid m1 c.offCtl [b] m) :
    Overlaid m0 0 (headerBytes { h with ctl := b } ++ p) m := by
  have hlen := headerBytes_length hf
  have hoff := offsets_eq c
  intro a
  rw [frameBytes_setCtl hf b p, h2 a, h1 a, List.length_set, Nat.zero_add, Nat.sub_zero, List.length_singleton]
  by_cases ha : a = c.offCtl
  · subst ha
    have hlt : c.offCtl < (headerBytes h ++ p).length := by rw [List.length_append]; omega
    rw [if_pos (by omega), if_pos ⟨Nat.zero_le _, hlt⟩, Nat.sub_self, List.getElem?_set_self hlt]
    rfl
  · rw [if_neg (by omega), List.getElem?_set_ne (Ne.symm ha)]

/-- Masked control bytes name the type and the mode (30_encoding R106). -/
theorem ctl_of_filterMask {b x : Byte} (h : b &&& 0xC1#8 = x) : ctlType b = ctlType x ∧ ctlMode b = ctlMode x := by
  subst h
  exact ⟨(ctlType_filterMask b).symm, (ctlMode_filterMask b).symm⟩

theorem linkreqCtl_fields (l : BitVec 2) :
    (ctlType (l.setWidth 8 <<< 6) = l ∧ ctlMode (l.setWidth 8 <<< 6) = false) ∧
      ctlType ((l.setWidth 8 <<< 6) ||| 0x01#8) = l ∧ ctlMode ((l.setWidth 8 <<< 6) ||| 0x01#8) = true := by
  revert l; decide

/-! ### The receptions -/

/-- Settles O39: the two accepting rows of R170 on an End Point. -/
theorem endPointReceivesFrame : Obligations.EndPointReceivesFrame := by
  intro s h p rssi lq hi hr hv hst hf hfit hlq hd
  obtain ⟨-, -, -, -, hl, -⟩ := (Config.valid_iff _).mp hv
  have H : HoldsFrame (filled s h p rssi lq) h p := holdsFrame_received hv hf hfit
  refine ⟨fun hmask hp => ?data, fun hmask hp => ?link⟩
  case data =>
    obtain ⟨ht, hm⟩ := ctl_of_filterMask hmask
    have hacc : validateOp s h = none := (validateOp_ep hr).trans (validateEpOp_eq_none hm hd (.inl hp))
    obtain ⟨v, hexec⟩ := exec_edgeRx_of_next (env := envelopeOf h p rssi lq) hi
      ((receiveDone_data hv hst hf hfit hlq hacc (classifyCtl_eq_data.mpr ht)).trans (dispatchDataOp_ep H hr))
    refine ⟨v, _, (overlaid_writeBytes _ _ _).setCtl hf (overlaid_writeBytes _ _ _), ?_⟩
    rw [hexec, ← filled_len (h := h) (rssi := rssi) (lq := lq) hfit]
    rfl
  case link =>
    obtain ⟨ht, hm⟩ := ctl_of_filterMask hmask
    obtain ⟨-, htype, hmode⟩ := linkreqCtl_fields s.cfg.linkreqCode
    have hclass : classifyCtl s.cfg h.ctl = .linkReq := classifyCtl_eq_linkReq.mpr ⟨ht.trans htype, hl⟩
    have hacc : validateOp s h = none := (validateOp_ep hr).trans
      (validateEpOp_eq_none (hm.trans hmode) hd (hp.imp_right fun ⟨hup, hfix⟩ => ⟨hclass, hup, hfix⟩))
    obtain ⟨v, hexec⟩ := exec_edgeRx_of_next (env := envelopeOf h p rssi lq) hi
      ((receiveDone_link hv hst hf hfit hlq hacc hclass).trans (dispatchLinkOp_ep H hr))
    exact ⟨v, _, overlaid_writeBytes _ _ _, hexec⟩

/-- Settles O40: the dispatch of Data on a Gateway, from the state the reception has reached. -/
theorem gatewayReceivesData : Obligations.GatewayReceivesData := by
  intro s h p rssi lq hi hr hv hst hf hfit hlq hmask hd hp
  obtain ⟨ht, hm⟩ := ctl_of_filterMask hmask
  have H : HoldsFrame (filled s h p rssi lq) h p := holdsFrame_received hv hf hfit
  have hacc : validateOp s h = none := (validateOp_gw hr).trans (validateGwOp_eq_none hm hd hp)
  have hrun := receiveDone_data (p := p) (rssi := rssi) hv hst hf hfit hlq hacc (classifyCtl_eq_data.mpr ht)
  have hlen := filled_len (h := h) (rssi := rssi) (lq := lq) hfit
  refine ⟨fun hn => ?silent, fun F hq h0 hfits => ?answer, fun hq h0 hlong => ?long⟩
  case silent =>
    obtain ⟨v, hexec⟩ := exec_edgeRx_of_next hi (hrun.trans (dispatchDataOp_gw H hr hn))
    refine ⟨v, ?_⟩
    rw [hexec, ← hlen]
    exact congrArg (Host.Outcome.next ∘ returned v) (idled_gw_congr (by exact hr) rfl)
  case answer =>
    obtain ⟨q, m1, m, t, hreply, hm1, hm, htx, hanswer⟩ := dispatchDataOp_turnaround H hr hv F.filled rfl hq h0 hfits
    obtain ⟨v, hexec⟩ := exec_edgeRx_of_next hi (hrun.trans hanswer)
    refine ⟨v, q, m1, m, t, ⟨hreply.len, hreply.told⟩, (overlaid_writeBytes _ _ _).setCtl hf hm1, hm, ?_, hexec⟩
    rw [htx, ← hlen]
    rfl
  case long =>
    obtain ⟨v, hexec⟩ := exec_edgeRx_of_next hi (hrun.trans (dispatchDataOp_tooLong H hr rfl hq h0 hlong))
    refine ⟨v, ?_⟩
    rw [hexec, ← hlen]
    exact congrArg (Host.Outcome.next ∘ returned v) (idled_gw_congr (by exact hr) rfl)

/-- Settles O41: the dispatch of a Link-Request on a Gateway, denied or accepted. -/
theorem gatewayReceivesLinkRequest : Obligations.GatewayReceivesLinkRequest := by
  intro s h p rssi lq hi hr hv F hst hf hfit hlq hmask hd hp
  obtain ⟨-, -, -, -, hl, -⟩ := (Config.valid_iff _).mp hv
  obtain ⟨ht, hm⟩ := ctl_of_filterMask hmask
  obtain ⟨⟨htype, hmode⟩, -⟩ := linkreqCtl_fields s.cfg.linkreqCode
  have H : HoldsFrame (filled s h p rssi lq) h p := holdsFrame_received hv hf hfit
  have hacc : validateOp s h = none := (validateOp_gw hr).trans (validateGwOp_eq_none (hm.trans hmode) hd hp)
  have hrun := receiveDone_link (p := p) (rssi := rssi) hv hst hf hfit hlq hacc
    (classifyCtl_eq_linkReq.mpr ⟨ht.trans htype, hl⟩)
  rw [← filled_len (h := h) (rssi := rssi) (lq := lq) hfit]
  by_cases hden : s.lrcb = true ∧ s.lrAccept = false
  · obtain ⟨v, hexec⟩ := exec_edgeRx_of_next hi (hrun.trans (dispatchLinkOp_denied H hr hden.1 hden.2))
    refine ⟨v, _, _, _, overlaid_writeBytes _ _ _, overlaid_writeBytes _ _ _, rfl, ?_⟩
    rw [if_pos hden, hexec]
    rfl
  · have hok : s.lrcb = false ∨ s.lrAccept = true := by
      cases h1 : s.lrcb <;> cases h2 : s.lrAccept <;> simp_all
    obtain ⟨m, t, hm, htx, hanswer⟩ := dispatchLinkOp_accepted H hr hv F.filled rfl hok
    obtain ⟨v, hexec⟩ := exec_edgeRx_of_next hi (hrun.trans hanswer)
    refine ⟨v, _, m, t, overlaid_writeBytes _ _ _, hm, htx, ?_⟩
    rw [if_neg hden, hexec]
    rfl

/-- An envelope of any frame bytes is taken apart into what it was made of (30_encoding R100). -/
theorem parseEnvelope_of_length {n : Byte} {f : Bytes} (hn : f.length = n.toNat) (rssi lq : Byte) :
    parseEnvelope ([n] ++ f ++ [rssi] ++ [lq]) = some { n := n.toNat, frame := f, rssi := rssi, lq := lq } := by
  have e : [n] ++ f ++ [rssi] ++ [lq] = n :: (f ++ [rssi, lq]) := by simp
  simp only [e, parseEnvelope, ← hn, List.drop_left, List.take_left]

/-- Settles O42: the checks of length and CRC, before anything of the frame is read. -/
theorem lengthAndCrcRejectionsAreSilent : Obligations.LengthAndCrcRejectionsAreSilent := by
  intro s n f rssi lq c hi hst hn hc
  have hcheck : rxCheckOp s.cfg n.toNat (crcOkOf lq) = some c := by
    rw [crcOkOf_eq]
    unfold rxCheckOp
    obtain ⟨rfl, hlow | hhigh⟩ | ⟨rfl, hlow, hhigh, hcrc⟩ := hc
    · rw [if_pos hlow]
    · rw [if_pos hhigh, ite_self]
    · rw [if_neg (by omega), if_neg (by omega), if_neg (by simp; omega)]
  have hrun : receiveDone ([n] ++ f ++ [rssi] ++ [lq]) s = .next (idled
      { received s n.toNat rssi lq (if n.toNat ≤ s.cfg.maxFrame then s.fb.writeBytes 0 f else s.fb) with
        cause := some (.reject c) }) := by
    rw [receiveDone, if_neg (not_not_intro hst), parseEnvelope_of_length hn]
    simp only [receive_eq, checkFrame, received_cfg, hcheck, rejectFrame, idlePolicy_eq, failWith]
  obtain ⟨v, hexec⟩ := exec_edgeRx_of_next hi hrun
  refine ⟨v, _, ?_, hexec⟩
  split
  · exact overlaid_writeBytes _ _ _
  · exact overlaid_writeBytes _ _ []

/-- Settles O43: each rejecting row of R170 is a verdict of the role's filter, or a reserved type past it. -/
theorem filterRejectionsAreSilent : Obligations.FilterRejectionsAreSilent := by
  intro s h p rssi lq c hi hv hst hf hfit hlq hep hgw
  have hrej : Rejected s h c := by
    unfold Rejected
    cases hr : s.cfg.role with
    | ep =>
      rw [validateOp_ep hr]
      obtain ⟨rfl, hm⟩ | ⟨rfl, hm, hd⟩ | ⟨rfl, hm, hd, hp, hno⟩ | ⟨rfl, hm, hd, hp, ht⟩ := hep hr
      · exact .inl (validateEpOp_rMode hm)
      · exact .inl (validateEpOp_rDest hm hd)
      · exact .inl (validateEpOp_rPan hm hd hp (not_mayAdopt hno))
      · exact .inr ⟨validateEpOp_eq_none hm hd (.inl hp), classifyCtl_eq_reserved.mpr ht, rfl⟩
    | gw =>
      rw [validateOp_gw hr]
      obtain ⟨rfl, hm⟩ | ⟨rfl, hm, hd, hb⟩ | ⟨rfl, hm, hd, hp, hb⟩ | ⟨rfl, hm, hd, hp, ht⟩ := hgw hr
      · exact .inl (validateGwOp_rMode hm)
      · exact .inl (validateGwOp_rDest hm hd ((isBcast_false_iff_exists ..).mpr hb))
      · exact .inl (validateGwOp_rPan hm hd hp hb)
      · exact .inr ⟨validateGwOp_eq_none hm hd hp, classifyCtl_eq_reserved.mpr ht, rfl⟩
  obtain ⟨v, hexec⟩ := exec_edgeRx_of_next hi (receiveDone_rejected (rssi := rssi) hv hst hf hfit hlq hrej)
  exact ⟨v, _, overlaid_writeBytes _ _ _, hexec⟩

theorem parseEnvelope_eq_none {env : Bytes} (h : ∀ n rest, env = n :: rest → env.length ≠ n.toNat + 3) :
    parseEnvelope env = none := by
  rw [← Option.not_isSome_iff_eq_none, parseEnvelope_isSome]
  rintro ⟨n, rest, he, hl⟩
  exact h n rest he hl

theorem meaning_edgeTx_spurious {s : State} (hst : s.st ≠ .transmitting) :
    meaning .edgeTx s = .refused .uSpuriousEvent := by
  rw [meaning, Machine.transmitDone, if_pos hst, bindOutcome_refused]

theorem meaning_edgeRx_spurious {s : State} (hst : s.st ≠ .listening) (env : Bytes) :
    meaning (.edgeRx env) s = .refused .uSpuriousEvent := by
  rw [meaning, receiveDone, if_pos hst, bindOutcome_refused]

theorem meaning_edgeRx_malformed {s : State} (hst : s.st = .listening) {env : Bytes} (h : parseEnvelope env = none) :
    meaning (.edgeRx env) s = .refused .uMalformedEnv := by
  rw [meaning, receiveDone, if_neg (not_not_intro hst), h]
  rfl

/-- Settles O44: the events test the state first, then the envelope. -/
theorem spuriousAndMalformedEventsAreRefused : Obligations.SpuriousAndMalformedEventsAreRefused := by
  refine fun s env hi => ⟨fun hst => ?_, fun hst => ?_, fun hst h => ?_⟩
  · rw [exec_of_both hi rfl rfl, meaning_edgeTx_spurious hst]
  · rw [exec_of_both hi rfl rfl, meaning_edgeRx_spurious hst]
  · rw [exec_of_both hi rfl rfl, meaning_edgeRx_malformed hst (parseEnvelope_eq_none h)]

end Sys2Proof.Machine
end

section
/-! The tick and the timeout (O45, O46). -/

namespace Sys2Proof.Machine

theorem timeoutPending_iff (s : State) :
    timeoutPending s = true ↔ s.cfg.role = .ep ∧ s.cfg.rxtoEn = true ∧ s.rxtoAct = true := by
  simp [timeoutPending, Config.hasRxto, and_assoc]

section Tick

variable {s : State}

theorem tickOp_of_not_pending (h : timeoutPending s = false) : tickOp s = s := if_neg (by simpa [timeoutPending] using h)

theorem tickOp_counts (h : timeoutPending s = true) (h1 : s.rxto ≠ 1#16) :
    tickOp s = { s with rxto := s.rxto - 1#16 } := by
  have hne : s.rxto - 1#16 ≠ 0#16 := by bv_omega
  have hp : (s.cfg.hasRxto && s.rxtoAct) = true := h
  rw [tickOp, if_pos hp, if_neg hne]

theorem tickOp_fires (h : timeoutPending s = true) (h1 : s.rxto = 1#16) :
    tickOp s = timeoutOp { s with rxto := 0#16, rxtoAct := false } := by
  have hp : (s.cfg.hasRxto && s.rxtoAct) = true := h
  rw [tickOp, if_pos hp, if_pos (by rw [h1]; rfl), h1]
  rfl

theorem exec_tick_eq (hi : s.inited = true) : exec .tick s = .next (answering .unit (tickOp s)) :=
  exec_of_both hi rfl rfl

end Tick

/-- Settles O45: no timeout, one above its end, and one at its end. -/
theorem tickCountsDown : Obligations.TickCountsDown := by
  refine fun s hi => ⟨fun hn => ?waits, fun hr hen hact h2 => ?counts, fun hr hen hact h1 => ?fires⟩
  case waits =>
    rw [exec_tick_eq hi, tickOp_of_not_pending (Bool.eq_false_of_not_eq_true (mt (timeoutPending_iff s).mp hn)), answering]
  case counts =>
    have hsub : s.rxto - 1#16 = BitVec.ofNat 16 (s.rxto.toNat - 1) := by bv_omega
    rw [exec_tick_eq hi, tickOp_counts ((timeoutPending_iff s).mpr ⟨hr, hen, hact⟩) (by bv_omega), hsub, answering]
  case fires =>
    rw [exec_tick_eq hi, tickOp_fires ((timeoutPending_iff s).mpr ⟨hr, hen, hact⟩) (BitVec.eq_of_toNat_eq h1),
      timeoutOp_ep (by exact hr), answering]

/-- An End Point that listens with `k` ticks to go. -/
structure Counting (k : Nat) (s : State) : Prop where
  inited : s.inited = true
  role : s.cfg.role = .ep
  pending : timeoutPending s = true
  st : s.st = .listening
  busy : s.busy = true
  left : s.rxto.toNat = k

/-- A tick before the last one counts down. -/
theorem Counting.tick {k : Nat} {s : State} (C : Counting (k + 1) s) (hk : 1 ≤ k) :
    ∃ t, exec .tick s = .next t ∧ Counting k t ∧ t.out = s.out ∧ t.tocb = s.tocb := by
  have hleft := C.left
  refine ⟨_, exec_tick_eq C.inited, ?_⟩
  rw [tickOp_counts C.pending (by bv_omega)]
  exact ⟨⟨C.inited, C.role, C.pending, C.st, C.busy, show (s.rxto - 1#16).toNat = k by bv_omega⟩, rfl, rfl⟩

theorem Counting.ticks_before {n k : Nat} {s : State} (C : Counting k s) (hn : n < k) :
    ∃ t, ticks n s = .next t ∧ Counting (k - n) t ∧ t.out = s.out := by
  induction n generalizing k s with
  | zero => exact ⟨s, rfl, C, rfl⟩
  | succ n ih =>
    obtain ⟨k, rfl⟩ : ∃ j, k = j + 1 := ⟨k - 1, by omega⟩
    obtain ⟨u, hu, Cu, hout, -⟩ := C.tick (by omega)
    obtain ⟨t, ht, Ct, hout'⟩ := ih Cu (by omega)
    exact ⟨t, by rw [ticks, hu, bindOutcome_next, ht], by rwa [Nat.add_sub_add_right], hout'.trans hout⟩

theorem Counting.ticks_last {k : Nat} {s : State} (C : Counting k s) (hk : 1 ≤ k) :
    ∃ t, ticks k s = .next t ∧ t.st = .idle ∧ t.busy = false ∧ t.rxtoAct = false ∧ t.fbtag = .none ∧
      t.out = s.out ++ (if s.tocb then [.cbTimeout] else []) ++ [.phyLowPower] := by
  induction k, hk using Nat.le_induction generalizing s with
  | base =>
    refine ⟨_, by rw [ticks, exec_tick_eq C.inited, bindOutcome_next, ticks], ?_⟩
    rw [tickOp_fires C.pending (BitVec.eq_of_toNat_eq C.left), timeoutOp_ep (by exact C.role)]
    exact ⟨rfl, rfl, rfl, rfl, rfl⟩
  | succ k hk ih =>
    obtain ⟨u, hu, Cu, hout, htocb⟩ := C.tick hk
    obtain ⟨t, ht, hend⟩ := ih Cu
    rw [hout, htocb] at hend
    exact ⟨t, by rw [ticks, hu, bindOutcome_next, ht], hend⟩

theorem counting_armed {s : State} (hi : s.inited = true) (hv : s.cfg.valid = true) (hr : s.cfg.role = .ep)
    (hen : s.cfg.rxtoEn = true) : Counting s.cfg.rxtoTicks (armed s) := by
  obtain ⟨-, -, -, -, -, -, -, hticks⟩ := (Config.valid_iff _).mp hv
  have hrx : s.cfg.hasRxto = true := (hasRxto_iff _).mpr ⟨hr, hen⟩
  refine ⟨hi, hr, by simp [timeoutPending, armed, hrx], rfl, rfl, ?_⟩
  simp only [armed, hrx, if_true, BitVec.toNat_ofNat]
  omega

/-- Settles O46: an induction over the ticks to go. -/
theorem timeoutFiresOnLastTick : Obligations.TimeoutFiresOnLastTick := by
  intro s hi hv hr hen
  obtain ⟨-, -, -, -, -, -, hticks, -⟩ := (Config.valid_iff _).mp hv
  have C := counting_armed hi hv hr hen
  refine ⟨fun n hn => ?_, C.ticks_last hticks⟩
  obtain ⟨t, ht, Ct, hout⟩ := C.ticks_before hn
  exact ⟨t, ht, Ct.st, Ct.busy, ((timeoutPending_iff t).mp Ct.pending).2.2, Ct.left, hout⟩

end Sys2Proof.Machine
end

section
/-! What an input can do: one inversion per shared operation, without any assumption on the state, and from them the
one for `exec`. The statements about the whole machine are case analyses of these. -/

namespace Sys2Proof.Machine

/-! ### Sends -/

/-- How a `Send` ends (43_scheduler_fsm R183, R184): its answer and its state. The frame that was handed over is what
stands in `FB` after the build. -/
inductive SendEnd (s : State) (ty : FrameType) (drq : Bool) (p : Bytes) : Bool → State → Prop
  | contention (hb : s.busy = true) : SendEnd s ty drq p false (failWith .contention s)
  | capacity (hb : s.busy = false) (hlong : s.cfg.maxFrame < p.length + s.cfg.hdrLen) :
      SendEnd s ty drq p false (failWith .capacity s)
  | handedOver {d b : Bytes} (hb : s.busy = false) (hfit : p.length + s.cfg.hdrLen ≤ s.cfg.maxFrame)
      (hdst : buildDest s = .next d)
      (hread : readFb (builtTo d ty drq p s) 0 (s.cfg.hdrLen + (builtTo d ty drq p s).len.toNat) = .next b) :
      SendEnd s ty drq p s.phyAccept (answered (builtTo d ty drq p s) b)

/-- A build that goes on has read its destination. -/
theorem buildFrame_cases {s t : State} {ty : FrameType} {drq : Bool} {p : Bytes} (h : buildFrame ty drq p s = .next t) :
    ∃ d, buildDest s = .next d ∧ t = builtTo d ty drq p s := by
  obtain ⟨d, hd, h⟩ := bindOutcome_eq_next.mp h
  obtain ⟨u, hu, h⟩ := bindOutcome_eq_next.mp h
  obtain ⟨-, rfl⟩ := writeFb_eq_next.mp hu
  cases h
  exact ⟨d, hd, by rw [builtTo, builtFrame_eq]; rfl⟩

theorem sendFrame_cases {s t : State} {ty : FrameType} {drq ok : Bool} {p : Bytes}
    (h : sendFrame ty drq p s = .next (ok, t)) : SendEnd s ty drq p ok t := by
  unfold sendFrame at h
  split at h
  next hb => cases h; exact .contention hb
  next hb =>
    have hb : s.busy = false := by simpa using hb
    split at h
    next hlong => cases h; exact .capacity hb hlong
    next hfit =>
      obtain ⟨u, hu, h⟩ := bindOutcome_eq_next.mp h
      obtain ⟨d, hd, rfl⟩ := buildFrame_cases hu
      obtain ⟨b, hread, h⟩ := bindOutcome_eq_next.mp h
      rw [phyAnswer_eq] at h
      cases h
      exact .handedOver hb (by omega) hd hread

theorem sendResult_cases {s t : State} {ty : FrameType} {drq : Bool} {p : Bytes}
    (h : sendResult ty drq p s = .next t) : ∃ ok u, SendEnd s ty drq p ok u ∧ t = answering (.bool ok) u := by
  obtain ⟨⟨ok, u⟩, hu, h⟩ := bindOutcome_eq_next.mp h
  cases h
  exact ⟨ok, u, sendFrame_cases hu, rfl⟩

/-! ### Dispatch and reception -/

/-- `m` is `FB`, perhaps with a control byte stored anew. -/
def CtlStored (s : State) (m : Memory) : Prop := m = s.fb ∨ ∃ c, m = s.fb.writeBytes s.cfg.offCtl [c]

/-- How the processing of a received frame ends (43_scheduler_fsm R191, R194 to R197): rejected; told to the host, or
denied by it; linked; answered, or not. The actions before an answer hand no frame over. -/
inductive Processed (s : State) : State → Prop
  | rejected (c : RejectCause) : Processed s (idled { s with cause := some (.reject c) })
  | told {m : Memory} {acts : List Action} (hm : CtlStored s m) (ha : framesSent acts = []) :
      Processed s (idled { s with fb := m, out := s.out ++ acts })
  | linked {h : Header} (hr : s.cfg.role = .ep) (hf : h.Fits s.cfg) : Processed s (idled (linked h.pan h.src s))
  | answered {m : Memory} {acts : List Action} {n : Byte} {k : Nat} {ty : FrameType} {q : Bytes} {t : State}
      (hr : s.cfg.role = .gw) (hm : CtlStored s m) (ha : framesSent acts = [])
      (ht : SendEnd { s with fb := m, radio := .active, drspLen := n, freeCtr := k, out := s.out ++ acts } ty false q
        true t) : Processed s t
  | unanswered {m : Memory} {acts : List Action} {n : Byte} {k : Nat} {ty : FrameType} {q : Bytes} {t : State}
      (hr : s.cfg.role = .gw) (hm : CtlStored s m) (ha : framesSent acts = [])
      (ht : SendEnd { s with fb := m, radio := .active, drspLen := n, freeCtr := k, out := s.out ++ acts } ty false q
        false t) : Processed s (idled t)

theorem processed_sendOrIdle {s u t : State} {m : Memory} {acts : List Action} {n : Byte} {k : Nat} {ty : FrameType}
    {q : Bytes} (hr : s.cfg.role = .gw) (hm : CtlStored s m) (ha : framesSent acts = [])
    (hu : u = { s with fb := m, radio := .active, drspLen := n, freeCtr := k, out := s.out ++ acts })
    (h : sendOrIdle ty q u = .next t) : Processed s t := by
  subst hu
  obtain ⟨⟨ok, u⟩, hu, h⟩ := bindOutcome_eq_next.mp h
  have hend := sendFrame_cases hu
  cases ok with
  | true => cases h; exact .answered hr hm ha hend
  | false =>
    rw [idlePolicy_eq] at h
    cases h
    exact .unanswered hr hm ha hend

theorem dispatchDataOp_cases {s t : State} (h : dispatchDataOp s = .next t) : Processed s t := by
  obtain ⟨c, -, h⟩ := bindOutcome_eq_next.mp h
  obtain ⟨u, hu, h⟩ := bindOutcome_eq_next.mp h
  obtain ⟨-, rfl⟩ := writeFb_eq_next.mp hu
  obtain ⟨p, -, h⟩ := bindOutcome_eq_next.mp h
  have hm : CtlStored s (s.fb.writeBytes s.cfg.offCtl [clearDrq c]) := .inr ⟨_, rfl⟩
  simp only [idlePolicy_eq] at h
  split at h
  next hr =>
    cases h
    exact .told hm (acts := [.cbFrameCompleteEp p s.len]) rfl
  next hr =>
    split at h
    next =>
      rw [turnaround] at h
      refine processed_sendOrIdle (acts := [.cbFrameCompleteGw (ctlDrq c) p s.len, .phyActive]) hr hm rfl
        (n := 0#8) (k := s.freeCtr + 1) ?_ h
      simp only [takeResponse, phyActive, emit, List.append_assoc]
      rfl
    next =>
      cases h
      exact .told hm (acts := [.cbFrameCompleteGw (ctlDrq c) p s.len]) rfl

theorem answerLink_cases {s t : State} {acc : Bool} {acts : List Action} (hr : s.cfg.role = .gw)
    (ha : framesSent acts = []) (ha' : framesSent (acts ++ [.phyActive]) = [])
    (h : answerLink acc { s with out := s.out ++ acts } = .next t) : Processed s t := by
  unfold answerLink at h
  cases acc with
  | true =>
    refine processed_sendOrIdle (acts := acts ++ [.phyActive]) hr (.inl rfl) ha' (n := s.drspLen) (k := s.freeCtr)
      ?_ h
    simp only [phyActive, emit, List.append_assoc]
  | false =>
    rw [idlePolicy_eq] at h
    cases h
    exact .told (.inl rfl) ha

/-- The header read from `FB` has the widths of the configuration. -/
theorem fits_of_readHeader {s : State} {h : Header} (hh : readHeader s = .next h) : h.Fits s.cfg := by
  obtain ⟨bs, hbs, hh⟩ := bindOutcome_eq_next.mp hh
  cases hh
  have hl := length_of_readFb hbs
  obtain ⟨-, -, hhdr, hsrc, hdst⟩ := offsets_eq s.cfg
  constructor <;> simp only [parseHeader, List.length_take, List.length_drop] <;> omega

theorem dispatchLinkOp_cases {s t : State} (h : dispatchLinkOp s = .next t) : Processed s t := by
  obtain ⟨hd, hhd, h⟩ := bindOutcome_eq_next.mp h
  have hf := fits_of_readHeader hhd
  split at h
  next hr =>
    rw [linkEstablish_eq hf.pan, idlePolicy_eq] at h
    cases h
    exact .linked hr hf
  next hr =>
    obtain ⟨p, -, h⟩ := bindOutcome_eq_next.mp h
    split at h
    next => exact answerLink_cases (acts := [.cbLinkRequest hd.pan hd.src p s.len]) hr rfl rfl h
    next => exact answerLink_cases (acts := []) hr rfl rfl (by simpa using h)

theorem processFrame_cases {s t : State} (h : processFrame s = .next t) : Processed s t := by
  obtain ⟨hd, -, h⟩ := bindOutcome_eq_next.mp h
  simp only [rejectFrame, idlePolicy_eq] at h
  split at h
  next => cases h; exact .rejected _
  next =>
    split at h
    next => cases h; exact .rejected _
    next => exact dispatchDataOp_cases h
    next => exact dispatchLinkOp_cases h

/-- The state an `EDGE_RX` has reached when envelope `e` is taken, before any check (43_scheduler_fsm R189, R190). -/
def taken (e : Envelope) (s : State) : State :=
  received s e.n e.rssi e.lq (if e.n ≤ s.cfg.maxFrame then s.fb.writeBytes 0 e.frame else s.fb)

theorem receiveDone_of_parse {env : Bytes} {e : Envelope} {s : State} (hst : s.st = .listening)
    (he : parseEnvelope env = some e) : receiveDone env s = checkFrame e (taken e s) := by
  rw [receiveDone, if_neg (not_not_intro hst), he]
  simp only [receive_eq]
  rfl

theorem checkFrame_cases {s t : State} {e : Envelope} (h : checkFrame e s = .next t) : Processed s t := by
  unfold checkFrame at h
  simp only [rejectFrame, idlePolicy_eq] at h
  split at h
  next => cases h; exact .rejected _
  next => exact processFrame_cases h

theorem receiveDone_cases {env : Bytes} {s t : State} (h : receiveDone env s = .next t) :
    s.st = .listening ∧ ∃ e, parseEnvelope env = some e ∧ Processed (taken e s) t := by
  have hst := receiveDone_listening h
  refine ⟨hst, ?_⟩
  cases he : parseEnvelope env with
  | none => rw [receiveDone, if_neg (not_not_intro hst), he] at h; cases h
  | some e => exact ⟨e, rfl, checkFrame_cases (receiveDone_of_parse hst he ▸ h)⟩

theorem transmitDone_cases {s t : State} (h : Machine.transmitDone s = .next t) :
    s.st = .transmitting ∧ ∃ c, readFbByte s s.cfg.offCtl = .next c ∧ t = txEnded c s := by
  have hst : s.st = .transmitting := by
    by_contra hst
    rw [Machine.transmitDone, if_pos hst] at h
    cases h
  have h' := h
  rw [Machine.transmitDone, if_neg (not_not_intro hst)] at h'
  obtain ⟨c, hc, -⟩ := bindOutcome_eq_next.mp h'
  rw [transmitDone_eq hst hc] at h
  cases h
  exact ⟨hst, c, hc, rfl⟩

/-! ### Inputs -/

/-- The inputs that read registers and answer, in the state they are given. -/
inductive Queries (s : State) : Instr → Prop
  | isbcast (a : Bytes) : Queries s (.isbcast a)
  | linkexists : Queries s .linkexists
  | compare (a b : Bytes) : Queries s (.compare a b)
  | busy : Queries s .busy
  | getpan : Queries s .getpan
  | getlink : Queries s .getlink
  | getlastsrc : Queries s .getlastsrc
  | getlastseq : Queries s .getlastseq
  | getrssi : Queries s .getrssi
  | getlqi : Queries s .getlqi
  | getcrc : Queries s .getcrc
  | fBusy : Queries s .fBusy
  | connect (p : Bytes) (hl : LinkUp s) : Queries s (.connect p)
  | transfer (p : Bytes) (hl : ¬ LinkUp s) : Queries s (.transfer p)

/-- The inputs that run `Send`, with its operands (45_facade_and_status R242, R244, R245). -/
inductive Sends (s : State) : Instr → FrameType → Bool → Bytes → Prop
  | send (ty : FrameType) (drq : Bool) (p : Bytes) : Sends s (.send ty drq p) ty drq p
  | simpletransfer (p : Bytes) (hr : s.cfg.role = .ep) : Sends s (.simpletransfer p) .data false p
  | connect (p : Bytes) (hr : s.cfg.role = .ep) (hl : ¬ LinkUp s) : Sends s (.connect p) .linkReq true p
  | transfer (p : Bytes) (hr : s.cfg.role = .ep) (hl : LinkUp s) : Sends s (.transfer p) .data true p

/-- What an input of an initialised node has done when it goes on. -/
inductive Ran (s : State) : Instr → State → Prop
  | query {i : Instr} {r : Result} (hq : Queries s i) : Ran s i (answering r s)
  | link {p r : Bytes} (hr : s.cfg.role = .ep) (hp : p.length = s.cfg.panW) (hl : r.length = s.cfg.addrW) :
      Ran s (.linkestablish p r) (answering .unit (linked p r s))
  | unlink {i : Instr} (hr : s.cfg.role = .ep) (hu : i = .linkdestroy ∨ i = .disconnect) :
      Ran s i (answering .unit (unlinked s))
  | listenBusy (hb : s.busy = true) : Ran s .listen (answering (.bool false) (failWith .contention s))
  | listen (hb : s.busy = false) : Ran s .listen (answering (.bool true) (armed s))
  | sent {i : Instr} {ty : FrameType} {drq ok : Bool} {p : Bytes} {r : Result} {u : State} (hs : Sends s i ty drq p)
      (hu : SendEnd s ty drq p ok u) : Ran s i (answering r u)
  | staged {i : Instr} {ptr : Nat} {n : Byte} (hi : i = .setdrsp ptr n ∨ i = .loaddataresponse ptr n) :
      Ran s i (answering .unit (stageResponse ptr n s))
  | transmitted {c v : Byte} (hst : s.st = .transmitting) (hc : readFbByte s s.cfg.offCtl = .next c) :
      Ran s .edgeTx (returned v (txEnded c s))
  | received {env : Bytes} {e : Envelope} {v : Byte} {t : State} (hst : s.st = .listening)
      (he : parseEnvelope env = some e) (ht : Processed (taken e s) t) : Ran s (.edgeRx env) (returned v t)
  | ticked : Ran s .tick (answering .unit (tickOp s))

/-- An admitted operation of one role runs on that role. -/
theorem role_of_inputRefusal {s : State} {code : Byte} {r : Role} (ho : onlyRole code = some r)
    (h : inputRefusal s code = none) : s.cfg.role = r := by
  unfold inputRefusal at h
  simp only [ho] at h
  split at h
  · cases h
  · split at h
    · assumption
    · cases h

/-- An admitted operation runs after `INIT`, or is one of the four that may come before it. -/
theorem inited_of_inputRefusal {s : State} {code : Byte} (hb : beforeInit code = false)
    (h : inputRefusal s code = none) : s.inited = true := by
  by_contra hi
  rw [inputRefusal_preinit (Bool.eq_false_of_not_eq_true hi) hb] at h
  cases h

theorem readLatch_cases {r : Result} {s t : State} (h : readLatch r s = .next t) : t = answering r s := by
  unfold readLatch at h
  split at h
  · cases h; rfl
  · cases h

/-- Every input of an initialised node that goes on has done one of these. -/
theorem ran_of_exec {s t : State} {i : Instr} (hi : s.inited = true) (hin : i.isInput = true)
    (h : exec i s = .next t) : Ran s i t := by
  obtain ⟨hadm, hw, h⟩ := exec_eq_next.mp h
  cases i with
  | init | fInit => rw [meaning, initialise_again hi] at h; cases h
  | isbcast => cases h; exact .query (.isbcast _)
  | linkexists => cases h; exact .query .linkexists
  | compare => cases h; exact .query (.compare _ _)
  | busy => cases h; exact .query .busy
  | getpan => cases h; exact .query .getpan
  | getlink => cases h; exact .query .getlink
  | fBusy => cases h; exact .query .fBusy
  | getlastsrc =>
    obtain ⟨b, -, h⟩ := bindOutcome_eq_next.mp h
    cases h; exact .query .getlastsrc
  | getlastseq =>
    obtain ⟨b, -, h⟩ := bindOutcome_eq_next.mp h
    cases h; exact .query .getlastseq
  | getrssi => rw [readLatch_cases h]; exact .query .getrssi
  | getlqi => rw [readLatch_cases h]; exact .query .getlqi
  | getcrc => rw [readLatch_cases h]; exact .query .getcrc
  | linkestablish p r =>
    simp only [Instr.wellFormed, Bool.and_eq_true, decide_eq_true_eq] at hw
    rw [meaning_linkestablish hw.1] at h
    cases h; exact .link (role_of_inputRefusal rfl hadm) hw.1 hw.2
  | linkdestroy =>
    rw [meaning_unlink s (.inl rfl)] at h
    cases h; exact .unlink (role_of_inputRefusal rfl hadm) (.inl rfl)
  | disconnect =>
    rw [meaning_unlink s (.inr rfl)] at h
    cases h; exact .unlink (role_of_inputRefusal rfl hadm) (.inr rfl)
  | listen =>
    rw [meaning, armRx_eq] at h
    split at h
    next hb => cases h; exact .listenBusy hb
    next hb => cases h; exact .listen (Bool.eq_false_of_not_eq_true hb)
  | send ty drq p =>
    obtain ⟨ok, u, hu, rfl⟩ := sendResult_cases h
    exact .sent (.send ty drq p) hu
  | simpletransfer p =>
    obtain ⟨ok, u, hu, rfl⟩ := sendResult_cases h
    exact .sent (.simpletransfer p (role_of_inputRefusal rfl hadm)) hu
  | transfer p =>
    rw [meaning] at h
    split at h
    next hl =>
      obtain ⟨ok, u, hu, rfl⟩ := sendResult_cases h
      exact .sent (.transfer p (role_of_inputRefusal rfl hadm) ((linkExists_iff s).mp hl)) hu
    next hl => cases h; exact .query (.transfer p (mt (linkExists_iff s).mpr hl))
  | connect p =>
    rw [meaning] at h
    split at h
    next hl => cases h; exact .query (.connect p ((linkExists_iff s).mp hl))
    next hl =>
      obtain ⟨⟨ok, u⟩, hu, h⟩ := bindOutcome_eq_next.mp h
      cases h
      exact .sent (.connect p (role_of_inputRefusal rfl hadm) (mt (linkExists_iff s).mpr hl)) (sendFrame_cases hu)
  | setdrsp ptr n => cases h; exact .staged (.inl rfl)
  | loaddataresponse ptr n => cases h; exact .staged (.inr rfl)
  | edgeTx =>
    obtain ⟨u, hu, h⟩ := bindOutcome_eq_next.mp h
    obtain ⟨hst, c, hc, rfl⟩ := transmitDone_cases hu
    cases h; exact .transmitted hst hc
  | edgeRx env =>
    obtain ⟨u, hu, h⟩ := bindOutcome_eq_next.mp h
    obtain ⟨hst, e, he, hu⟩ := receiveDone_cases hu
    cases h; exact .received hst he hu
  | tick => cases h; exact .ticked
  | _ => cases hin

/-- What an input before `INIT` has done when it goes on: a query that reads no register, or `INIT`. -/
theorem started_of_exec {s t : State} {i : Instr} (hi : s.inited = false) (h : exec i s = .next t) :
    (∃ r, t = answering r s) ∨
    (∃ pan addr hook tocb r, s.cfg.role = .ep ∧ pan.length = s.cfg.panW ∧ addr.length = s.cfg.addrW ∧
      t = answering r (epStarted pan addr hook tocb s)) ∨
    (∃ pan addr lrcb r, s.cfg.role = .gw ∧ pan.length = s.cfg.panW ∧ addr.length = s.cfg.addrW ∧
      isBcast s.cfg pan = false ∧ t = answering r (gwStarted pan addr lrcb s)) := by
  obtain ⟨hadm, hw, h⟩ := exec_eq_next.mp h
  cases i with
  | isbcast | compare => cases h; exact .inl ⟨_, rfl⟩
  | init pan addr hook lrcb tocb | fInit pan addr hook lrcb tocb =>
    simp only [Instr.wellFormed, Bool.and_eq_true, decide_eq_true_eq] at hw
    obtain ⟨hp, ha⟩ := hw
    obtain ⟨u, hu, h⟩ := bindOutcome_eq_next.mp h
    cases h
    cases hr : s.cfg.role with
    | ep =>
      rw [initialise_ep hi hr hp] at hu
      cases hu
      exact .inr (.inl ⟨pan, addr, hook, tocb, _, rfl, hp, ha, rfl⟩)
    | gw =>
      cases hb : isBcast s.cfg pan with
      | true => rw [initialise_gw_bcast hi hr hb] at hu; cases hu
      | false =>
        rw [initialise_gw hi hr hp hb] at hu
        cases hu
        exact .inr (.inr ⟨pan, addr, lrcb, _, rfl, hp, ha, hb, rfl⟩)
  | _ => rw [inited_of_inputRefusal rfl hadm] at hi; cases hi

end Sys2Proof.Machine
end

section
/-! What no input changes (O54), and what only link operations and received frames change (O55): each effect keeps the
identity of the node, and all but two keep the registry. -/

namespace Sys2Proof.Machine

/-! ### The identity of the node -/

/-- What makes an node the one it is, with its host memory and the inputs to come. -/
structure Identity where
  cfg : Config
  hm : Memory
  pending : List Request
  inited : Bool
  localAddr : Bytes
  fixed : Bool
  hook : Bool
  lrcb : Bool
  tocb : Bool

/-- The identity of a state. -/
def identity (s : State) : Identity :=
  ⟨s.cfg, s.hm, s.pending, s.inited, s.localAddr, s.fixed, s.hook, s.lrcb, s.tocb⟩

theorem identity_idled (s : State) : identity (idled s) = identity s := by simp [identity]

theorem identity_linked (p r : Bytes) (s : State) : identity (linked p r s) = identity s := by simp [identity]

theorem identity_unlinked (s : State) : identity (unlinked s) = identity s := by simp [identity]

theorem identity_answered (s : State) (b : Bytes) : identity (answered s b) = identity s := by simp [identity]

theorem identity_txEnded (c : Byte) (s : State) : identity (txEnded c s) = identity s := by
  unfold txEnded cbTxDone
  split
  · rfl
  · rw [identity_idled]; split <;> rfl

theorem identity_timeoutOp (s : State) : identity (timeoutOp s) = identity s := by
  unfold timeoutOp
  rw [idlePolicy_eq, identity_idled]
  split <;> rfl

theorem identity_tickOp (s : State) : identity (tickOp s) = identity s := by
  unfold tickOp
  split
  · split
    · exact identity_timeoutOp _
    · rfl
  · rfl

theorem SendEnd.identity {s t : State} {ty : FrameType} {drq ok : Bool} {p : Bytes} (h : SendEnd s ty drq p ok t) :
    identity t = identity s := by
  cases h with
  | contention | capacity => rfl
  | handedOver => exact identity_answered _ _

theorem Processed.identity {s t : State} (h : Processed s t) : identity t = identity s := by
  cases h with
  | rejected | told => exact identity_idled _
  | linked => exact (identity_idled _).trans (identity_linked ..)
  | answered _ _ _ ht => exact ht.identity
  | unanswered _ _ _ ht => exact (identity_idled _).trans ht.identity

theorem Ran.identity {s t : State} {i : Instr} (h : Ran s i t) : identity t = identity s := by
  cases h with
  | query | listenBusy | listen | staged => rfl
  | link => exact identity_linked ..
  | unlink => exact identity_unlinked s
  | sent hs hu => exact hu.identity
  | transmitted => exact identity_txEnded _ s
  | received hst he ht => exact ht.identity
  | ticked => exact identity_tickOp s

/-- Settles O54: every input keeps the identity, and `INIT`, which sets it, keeps the rest. -/
theorem identityAndHostMemoryAreKept : Obligations.IdentityAndHostMemoryAreKept := by
  intro s t h
  obtain ⟨-, he⟩ | ⟨-, ⟨hp, he⟩ | ⟨r, rest, hp, ⟨i, -, hin, he⟩ | ⟨e, he⟩⟩⟩ := step_cases s
  · cases he.symm.trans h
  · cases he.symm.trans h
    exact ⟨rfl, fun r rest hp' => absurd (hp.symm.trans hp') nofun, fun hi => ⟨hi, rfl, rfl, rfl, rfl, rfl⟩⟩
  · rw [he] at h
    cases hi : s.inited with
    | true =>
      have hid := (ran_of_exec (s := deliver r rest s) hi hin h).identity
      simp only [identity, Identity.mk.injEq] at hid
      obtain ⟨hcfg, hhm, hpend, hinit, hloc, hfix, hhook, hlrcb, htocb⟩ := hid
      refine ⟨hcfg, fun r' rest' hp' => ?_, fun _ => ⟨hinit.trans hi, hloc, hfix, hhook, hlrcb, htocb⟩⟩
      cases hp.symm.trans hp'
      exact ⟨hhm, hpend⟩
    | false =>
      have hkept : t.cfg = s.cfg ∧ t.hm = s.hm.writeCells r.hostWrites ∧ t.pending = rest := by
        obtain ⟨_, rfl⟩ | ⟨_, _, _, _, _, _, _, _, rfl⟩ | ⟨_, _, _, _, _, _, _, _, rfl⟩ :=
          started_of_exec (s := deliver r rest s) hi h
        all_goals exact ⟨rfl, rfl, rfl⟩
      obtain ⟨hcfg, hhm, hpend⟩ := hkept
      refine ⟨hcfg, fun r' rest' hp' => ?_, nofun⟩
      cases hp.symm.trans hp'
      exact ⟨hhm, hpend⟩
  · cases he.symm.trans h

/-! ### The registry -/

/-- The PAN id and the linked address. -/
def registry (s : State) : Bytes × Bytes := (s.panid, s.remote)

theorem registry_idled (s : State) : registry (idled s) = registry s := by simp [registry]

theorem registry_txEnded (c : Byte) (s : State) : registry (txEnded c s) = registry s := by
  unfold txEnded cbTxDone
  split
  · rfl
  · rw [registry_idled]; split <;> rfl

theorem registry_timeoutOp (s : State) : registry (timeoutOp s) = registry s := by
  unfold timeoutOp
  rw [idlePolicy_eq, registry_idled]
  split <;> rfl

theorem registry_tickOp (s : State) : registry (tickOp s) = registry s := by
  unfold tickOp
  split
  · split
    · exact registry_timeoutOp _
    · rfl
  · rfl

theorem SendEnd.registry {s t : State} {ty : FrameType} {drq ok : Bool} {p : Bytes} (h : SendEnd s ty drq p ok t) :
    registry t = registry s := by
  cases h with
  | contention | capacity => rfl
  | handedOver => simp [Machine.registry, builtTo]

/-- An End Point whose PAN id is not fixed, or is kept. -/
def EpKeepsFixed (s t : State) : Prop := s.cfg.role = .ep ∧ (s.fixed = true → t.panid = s.panid)

theorem Processed.registry {s t : State} (h : Processed s t) : registry t = registry s ∨ EpKeepsFixed s t := by
  cases h with
  | rejected | told => exact .inl (registry_idled _)
  | linked hr => exact .inr ⟨hr, fun hf => by rw [idled_panid, linked_panid, if_pos hf]⟩
  | answered _ _ _ ht => exact .inl ht.registry
  | unanswered _ _ _ ht => exact .inl ((registry_idled _).trans ht.registry)

/-- The inputs that may change the registry. -/
def LinkInput (i : Instr) : Prop :=
  i = .linkdestroy ∨ i = .disconnect ∨ (∃ p q, i = .linkestablish p q) ∨ ∃ e, i = .edgeRx e

theorem Ran.registry {s t : State} {i : Instr} (h : Ran s i t) :
    registry t = registry s ∨ (EpKeepsFixed s t ∧ LinkInput i) := by
  cases h with
  | query | listenBusy | listen | staged => exact .inl rfl
  | link hr =>
    exact .inr ⟨⟨hr, fun hf => (linked_panid _ _ s).trans (if_pos hf)⟩, .inr (.inr (.inl ⟨_, _, rfl⟩))⟩
  | unlink hr hu =>
    exact .inr ⟨⟨hr, fun hf => (unlinked_panid s).trans (if_pos hf)⟩, hu.imp_right .inl⟩
  | sent hs hu => exact .inl hu.registry
  | transmitted => exact .inl (registry_txEnded _ s)
  | received hst he ht => exact ht.registry.imp_right fun hk => ⟨hk, .inr (.inr (.inr ⟨_, rfl⟩))⟩
  | ticked => exact .inl (registry_tickOp s)

/-- Settles O55: all other inputs keep the registry. -/
theorem registryChangesOnlyByLinkOperations : Obligations.RegistryChangesOnlyByLinkOperations := by
  intro s t r rest hi hp h
  obtain ⟨i, hd, hin, he⟩ := step_eq_next_of_pending hp h
  obtain hkeep | ⟨⟨hr, hfix⟩, hlink⟩ := (ran_of_exec (s := deliver r rest s) hi hin he).registry
  · obtain ⟨hpan, hrem⟩ := Prod.mk.inj hkeep
    refine ⟨fun _ => hpan, fun _ => hrem, fun hne => ?_⟩
    exact absurd hne (not_or.mpr ⟨not_not_intro hpan, not_not_intro hrem⟩)
  · have hgw : ¬ s.cfg.role = .gw := fun hgw => by cases (hr : s.cfg.role = .ep).symm.trans hgw
    exact ⟨fun h => hfix (h.resolve_left hgw), fun h => (hgw h).elim, fun _ => ⟨i, hd, hlink⟩⟩

end Sys2Proof.Machine
end

section
/-! The frames an input hands over (O56). -/

namespace Sys2Proof.Machine

theorem framesSent_append (as bs : List Action) : framesSent (as ++ bs) = framesSent as ++ framesSent bs := by
  induction as with
  | nil => rfl
  | cons a as ih => cases a <;> simp [framesSent, ih]

/-- From `s` to `t` the frames `fs` have been handed over, and `SEQ` has advanced by one for each. -/
def HandedOver (fs : List Bytes) (s t : State) : Prop :=
  framesSent t.out = framesSent s.out ++ fs ∧ t.seq = s.seq + BitVec.ofNat 8 fs.length

/-- What hands nothing over. -/
theorem handedOver_nil {s t : State} {acts : List Action} (ho : t.out = s.out ++ acts) (ha : framesSent acts = [])
    (hs : t.seq = s.seq) : HandedOver [] s t := by
  refine ⟨by rw [ho, framesSent_append, ha], by simp [hs]⟩

theorem handedOver_refl (s : State) : HandedOver [] s s := handedOver_nil (List.append_nil _).symm rfl rfl

theorem HandedOver.trans_nil {fs : List Bytes} {s t u : State} (h : HandedOver fs s t) (h' : HandedOver [] t u) :
    HandedOver fs s u := by
  obtain ⟨ho, hs⟩ := h
  obtain ⟨ho', hs'⟩ := h'
  exact ⟨by rw [ho', ho, List.append_nil], by rw [hs', hs, List.length_nil, BitVec.add_zero]⟩

theorem HandedOver.nil_trans {fs : List Bytes} {s t u : State} (h : HandedOver [] s t) (h' : HandedOver fs t u) :
    HandedOver fs s u := by
  obtain ⟨ho, hs⟩ := h
  obtain ⟨ho', hs'⟩ := h'
  refine ⟨by rw [ho', ho, List.append_nil], ?_⟩
  rw [hs', hs, List.length_nil, BitVec.add_zero]

theorem handedOver_armed (s : State) : HandedOver [] s (armed s) := handedOver_nil (acts := [.phyArmRx]) rfl rfl rfl

theorem handedOver_idled (s : State) : HandedOver [] s (idled s) := by
  cases hr : s.cfg.role with
  | ep => rw [idled_ep hr]; exact handedOver_nil (acts := [.phyLowPower]) rfl rfl rfl
  | gw =>
    rw [idled_gw hr]
    exact handedOver_nil (acts := [.phyLowPower, .phyArmRx]) (List.append_assoc ..) rfl rfl

theorem handedOver_persisted (s : State) : HandedOver [] s (persisted s) := by
  unfold persisted
  split
  · exact handedOver_nil (acts := [.backupWrite _]) rfl rfl rfl
  · exact handedOver_refl s

theorem handedOver_linked (p r : Bytes) (s : State) : HandedOver [] s (linked p r s) := by
  unfold linked
  split
  · refine HandedOver.nil_trans ?_ (handedOver_persisted _)
    exact handedOver_refl s
  · refine HandedOver.nil_trans ?_ (handedOver_persisted _)
    exact handedOver_nil (acts := [.afEnable _]) rfl rfl rfl

theorem handedOver_unlinked (s : State) : HandedOver [] s (unlinked s) := by
  unfold unlinked
  split
  · refine HandedOver.nil_trans ?_ (handedOver_persisted _)
    exact handedOver_refl s
  · refine HandedOver.nil_trans ?_ (handedOver_persisted _)
    exact handedOver_nil (acts := [.afDisable]) rfl rfl rfl

theorem handedOver_txEnded (c : Byte) (s : State) : HandedOver [] s (txEnded c s) := by
  unfold txEnded cbTxDone
  split
  · exact handedOver_armed s
  · refine HandedOver.nil_trans ?_ (handedOver_idled _)
    split
    · exact handedOver_nil (acts := [.cbFrameCompleteEp [] 0#8]) rfl rfl rfl
    · exact handedOver_nil (acts := [.cbFrameCompleteGw false [] 0#8]) rfl rfl rfl

theorem handedOver_timeoutOp (s : State) : HandedOver [] s (timeoutOp s) := by
  unfold timeoutOp
  rw [idlePolicy_eq]
  refine HandedOver.nil_trans ?_ (handedOver_idled _)
  split
  · exact handedOver_nil (acts := [.cbTimeout]) rfl rfl rfl
  · exact handedOver_refl s

theorem handedOver_tickOp (s : State) : HandedOver [] s (tickOp s) := by
  unfold tickOp
  split
  · split
    · exact HandedOver.nil_trans (handedOver_refl s) (handedOver_timeoutOp _)
    · exact handedOver_refl s
  · exact handedOver_refl s

/-- The frame handed over by one input, if any: it stands in `FB` where it is taken. -/
inductive OneFrame (t : State) : List Bytes → Prop
  | none : OneFrame t []
  | one {b : Bytes} (hb : t.st = .transmitting → t.fb.readBytes 0 b.length = some b) : OneFrame t [b]

/-- A frame that was handed over stands in `FB`. -/
theorem SendEnd.frames {s t : State} {ty : FrameType} {drq ok : Bool} {p : Bytes} (h : SendEnd s ty drq p ok t) :
    ∃ fs, HandedOver fs s t ∧ OneFrame t fs := by
  cases h with
  | contention | capacity => exact ⟨[], handedOver_refl s, .none⟩
  | @handedOver d b hb hfit hdst hread =>
    obtain ⟨-, -, hbytes⟩ := readFb_eq_next.mp hread
    have hlen := length_of_readFb hread
    refine ⟨[b], ⟨?_, ?_⟩, .one fun _ => ?_⟩
    · unfold answered; split <;> exact framesSent_append _ [.phyTx b]
    · rw [answered_seq]; rfl
    · rw [answered_fb, hlen, hbytes]

/-- A processed frame hands over at most its answer. -/
theorem Processed.frames {s t : State} (h : Processed s t) : ∃ fs, HandedOver fs s t ∧ OneFrame t fs := by
  cases h with
  | rejected c =>
    refine ⟨[], HandedOver.nil_trans ?_ (handedOver_idled _), .none⟩
    exact handedOver_refl s
  | told hm ha =>
    refine ⟨[], HandedOver.nil_trans ?_ (handedOver_idled _), .none⟩
    exact handedOver_nil rfl ha rfl
  | linked hr hf => exact ⟨[], (handedOver_linked _ _ s).nil_trans (handedOver_idled _), .none⟩
  | answered hr hm ha ht =>
    obtain ⟨fs, hfs, hone⟩ := ht.frames
    refine ⟨fs, HandedOver.nil_trans ?_ hfs, hone⟩
    exact handedOver_nil rfl ha rfl
  | @unanswered m acts n k ty q u hr hm ha ht =>
    obtain ⟨fs, hfs, hone⟩ := ht.frames
    refine ⟨fs, (HandedOver.nil_trans ?_ hfs).trans_nil (handedOver_idled _), ?_⟩
    · exact handedOver_nil rfl ha rfl
    · have hst : (idled u).st = .listening := by
        rw [idled_gw ((congrArg (fun x => x.cfg.role) ht.identity).trans hr)]; rfl
      cases hone with
      | none => exact .none
      | one => exact .one fun h => by rw [hst] at h; cases h

/-- An input hands over at most one frame. -/
theorem Ran.frames {s t : State} {i : Instr} (h : Ran s i t) : ∃ fs, HandedOver fs s t ∧ OneFrame t fs := by
  cases h with
  | query | listenBusy | staged => exact ⟨[], handedOver_refl s, .none⟩
  | link => exact ⟨[], handedOver_linked _ _ s, .none⟩
  | unlink => exact ⟨[], handedOver_unlinked s, .none⟩
  | listen => exact ⟨[], handedOver_armed s, .none⟩
  | sent hs hu =>
    obtain ⟨fs, hfs, hone⟩ := hu.frames
    exact ⟨fs, hfs, by cases hone with | none => exact .none | one hb => exact .one hb⟩
  | transmitted => exact ⟨[], handedOver_txEnded _ s, .none⟩
  | received hst he ht =>
    obtain ⟨fs, hfs, hone⟩ := ht.frames
    exact ⟨fs, hfs, by cases hone with | none => exact .none | one hb => exact .one hb⟩
  | ticked => exact ⟨[], handedOver_tickOp s, .none⟩

/-- Settles O56: the actions of a step start empty, so its frames are those its input handed over. -/
theorem sequenceAdvancesPerFrame : Obligations.SequenceAdvancesPerFrame := by
  intro s t r rest hi hp h
  obtain ⟨i, -, hin, he⟩ := step_eq_next_of_pending hp h
  obtain ⟨fs, ⟨hout, hseq⟩, hone⟩ := (ran_of_exec (s := deliver r rest s) hi hin he).frames
  have hout : framesSent t.out = fs := hout
  rw [hout]
  exact ⟨by cases hone <;> simp, hseq⟩

end Sys2Proof.Machine
end

section
/-! The shadows of the radio and of the address filter (O59): two runs from states that are equal but for them are kept
side by side, and read nothing else. -/

namespace Sys2Proof.Machine

/-! ### Outcomes side by side -/

/-- Two outcomes stop for one reason, or go on with related values. -/
inductive OutcomeRel {σ φ ρ : Type} (R : σ → σ → Prop) : Host.Outcome σ φ ρ → Host.Outcome σ φ ρ → Prop
  | next {a b : σ} (h : R a b) : OutcomeRel R (.next a) (.next b)
  | fault (r : φ) : OutcomeRel R (.fault r) (.fault r)
  | refused (r : ρ) : OutcomeRel R (.refused r) (.refused r)

theorem OutcomeRel.bind {σ τ φ ρ : Type} {R : σ → σ → Prop} {S : τ → τ → Prop} {o o' : Host.Outcome σ φ ρ}
    {k k' : σ → Host.Outcome τ φ ρ} (h : OutcomeRel R o o') (hk : ∀ a b, R a b → OutcomeRel S (k a) (k' b)) :
    OutcomeRel S (bindOutcome o k) (bindOutcome o' k') := by
  cases h with
  | next h => exact hk _ _ h
  | fault r => exact .fault r
  | refused r => exact .refused r

/-- Both runs read the same. -/
theorem OutcomeRel.bind_read {σ τ φ ρ : Type} {S : τ → τ → Prop} (o : Host.Outcome σ φ ρ)
    {k k' : σ → Host.Outcome τ φ ρ} (hk : ∀ a, OutcomeRel S (k a) (k' a)) :
    OutcomeRel S (bindOutcome o k) (bindOutcome o k') := by
  cases o with
  | next a => exact hk a
  | fault r => exact .fault r
  | refused r => exact .refused r

/-- Both runs take the same branch. -/
theorem OutcomeRel.ite {σ φ ρ : Type} {R : σ → σ → Prop} {c : Prop} [Decidable c] {o o' u u' : Host.Outcome σ φ ρ}
    (h : OutcomeRel R o o') (h' : OutcomeRel R u u') : OutcomeRel R (if c then o else u) (if c then o' else u') := by
  split <;> assumption

/-- `t` is `s` with other shadows. -/
def UpToShadows (s t : State) : Prop := ∃ r e b, t = { s with radio := r, afEn := e, afByte := b }

theorem upToShadows_blank (s : State) : UpToShadows s (blankShadows s) := ⟨_, _, _, rfl⟩

theorem UpToShadows.ite {c : Prop} [Decidable c] {s s' t t' : State} (h : UpToShadows s t) (h' : UpToShadows s' t') :
    UpToShadows (if c then s else s') (if c then t else t') := by
  split <;> assumption

theorem mapOutcome_blankShadows_of_rel {o o' : Res} (h : OutcomeRel UpToShadows o o') :
    mapOutcome blankShadows o' = mapOutcome blankShadows o := by
  cases h with
  | next h => obtain ⟨r, e, b, rfl⟩ := h; rfl
  | fault | refused => rfl

/-! ### The shared operations -/

section Shadows

variable {s t : State}

theorem UpToShadows.ret (h : UpToShadows s t) (r : Result) : OutcomeRel UpToShadows (ret r s) (ret r t) := by
  obtain ⟨x, e, b, rfl⟩ := h
  exact .next ⟨x, e, b, rfl⟩

theorem UpToShadows.retStatus (h : UpToShadows s t) : OutcomeRel UpToShadows (retStatus s) (retStatus t) := by
  obtain ⟨x, e, b, rfl⟩ := h
  exact .next ⟨x, e, b, rfl⟩

theorem UpToShadows.armRx (h : UpToShadows s t) : UpToShadows (armRx s) (armRx t) := by
  obtain ⟨x, e, b, rfl⟩ := h
  rw [armRx_eq, armRx_eq]
  exact ⟨.active, e, b, rfl⟩

theorem UpToShadows.idlePolicy (h : UpToShadows s t) : UpToShadows (idlePolicy s) (idlePolicy t) := by
  obtain ⟨x, e, b, rfl⟩ := h
  rw [idlePolicy_eq, idlePolicy_eq]
  cases hr : s.cfg.role with
  | ep => rw [idled_ep hr, idled_ep (by exact hr)]; exact ⟨.lowPower, e, b, rfl⟩
  | gw => rw [idled_gw hr, idled_gw (by exact hr)]; exact ⟨.active, e, b, rfl⟩

theorem UpToShadows.failWith (h : UpToShadows s t) (c : Cause) : UpToShadows (failWith c s) (failWith c t) := by
  obtain ⟨x, e, b, rfl⟩ := h
  exact ⟨x, e, b, rfl⟩

theorem UpToShadows.emit (h : UpToShadows s t) (a : Action) : UpToShadows (emit a s) (emit a t) := by
  obtain ⟨x, e, b, rfl⟩ := h
  exact ⟨x, e, b, rfl⟩

theorem UpToShadows.phyActive (h : UpToShadows s t) : UpToShadows (phyActive s) (phyActive t) := by
  obtain ⟨x, e, b, rfl⟩ := h
  exact ⟨.active, e, b, rfl⟩

theorem UpToShadows.rejectFrame (h : UpToShadows s t) (c : RejectCause) :
    OutcomeRel UpToShadows (.next (rejectFrame c s) : Res) (.next (rejectFrame c t)) :=
  .next (h.failWith _).idlePolicy

theorem UpToShadows.persist (h : UpToShadows s t) : UpToShadows (persist s) (persist t) := by
  obtain ⟨x, e, b, rfl⟩ := h
  unfold Machine.persist
  exact .ite ⟨x, e, b, rfl⟩ ⟨x, e, b, rfl⟩

theorem UpToShadows.linkEstablish (h : UpToShadows s t) (p r : Bytes) :
    UpToShadows (linkEstablish p r s) (linkEstablish p r t) := by
  obtain ⟨x, e, b, rfl⟩ := h
  unfold Machine.linkEstablish
  refine UpToShadows.persist ?_
  dsimp only
  split
  · exact ⟨x, e, b, rfl⟩
  · exact ⟨x, true, lowByte s.cfg p, rfl⟩

theorem UpToShadows.linkDestroy (h : UpToShadows s t) : UpToShadows (linkDestroy s) (linkDestroy t) := by
  obtain ⟨x, e, b, rfl⟩ := h
  unfold Machine.linkDestroy
  refine UpToShadows.persist ?_
  dsimp only
  split
  · exact ⟨x, e, b, rfl⟩
  · exact ⟨x, false, b, rfl⟩

theorem UpToShadows.stageResponse (h : UpToShadows s t) (ptr : Nat) (n : Byte) :
    UpToShadows (stageResponse ptr n s) (stageResponse ptr n t) := by
  obtain ⟨x, e, b, rfl⟩ := h
  exact ⟨x, e, b, rfl⟩

theorem UpToShadows.takeResponse (h : UpToShadows s t) : UpToShadows (takeResponse s) (takeResponse t) := by
  obtain ⟨x, e, b, rfl⟩ := h
  exact ⟨x, e, b, rfl⟩

theorem UpToShadows.timeoutOp (h : UpToShadows s t) : UpToShadows (timeoutOp s) (timeoutOp t) := by
  obtain ⟨x, e, b, rfl⟩ := h
  unfold Machine.timeoutOp
  exact (UpToShadows.ite ⟨x, e, b, rfl⟩ ⟨x, e, b, rfl⟩).idlePolicy

theorem UpToShadows.tickOp (h : UpToShadows s t) : UpToShadows (tickOp s) (tickOp t) := by
  obtain ⟨x, e, b, rfl⟩ := h
  unfold Machine.tickOp
  dsimp only
  split
  · split
    · exact UpToShadows.timeoutOp ⟨x, e, b, rfl⟩
    · exact ⟨x, e, b, rfl⟩
  · exact ⟨x, e, b, rfl⟩

theorem UpToShadows.writeFb (h : UpToShadows s t) (off : Nat) (bs : Bytes) :
    OutcomeRel UpToShadows (writeFb off bs s) (writeFb off bs t) := by
  obtain ⟨x, e, b, rfl⟩ := h
  unfold Machine.writeFb
  dsimp only
  split
  · exact .next ⟨x, e, b, rfl⟩
  · exact .fault _

/-! ### Sends -/

theorem UpToShadows.buildFrame (h : UpToShadows s t) (ty : FrameType) (drq : Bool) (p : Bytes) :
    OutcomeRel UpToShadows (buildFrame ty drq p s) (buildFrame ty drq p t) := by
  obtain ⟨x, e, b, rfl⟩ := h
  refine OutcomeRel.bind_read (buildDest s) fun d => ?_
  refine OutcomeRel.bind (UpToShadows.writeFb ⟨x, e, b, rfl⟩ 0 _) fun u v huv => ?_
  obtain ⟨x, e, b, rfl⟩ := huv
  exact .next ⟨x, e, b, rfl⟩

/-- The Physical Bridge gives one answer to both. -/
theorem UpToShadows.phyAnswer (h : UpToShadows s t) :
    (phyAnswer t).1 = (phyAnswer s).1 ∧ UpToShadows (phyAnswer s).2 (phyAnswer t).2 := by
  obtain ⟨x, e, b, rfl⟩ := h
  unfold Machine.phyAnswer
  dsimp only
  split
  · exact ⟨rfl, .active, e, b, rfl⟩
  · exact ⟨rfl, x, e, b, rfl⟩

/-- Two answers of `Send` are the same but for the shadows. -/
def SameAnswer (r r' : Bool × State) : Prop := r'.1 = r.1 ∧ UpToShadows r.2 r'.2

theorem UpToShadows.sendFrame (h : UpToShadows s t) (ty : FrameType) (drq : Bool) (p : Bytes) :
    OutcomeRel SameAnswer (sendFrame ty drq p s) (sendFrame ty drq p t) := by
  have hb : t.busy = s.busy := by obtain ⟨_, _, _, rfl⟩ := h; rfl
  have hc : t.cfg = s.cfg := by obtain ⟨_, _, _, rfl⟩ := h; rfl
  unfold Machine.sendFrame
  rw [hb, hc]
  split
  · exact .next ⟨rfl, h.failWith _⟩
  · split
    · exact .next ⟨rfl, h.failWith _⟩
    · refine OutcomeRel.bind (h.buildFrame ty drq p) fun u v huv => ?_
      have hread : readFb v 0 (v.cfg.hdrLen + v.len.toNat) = readFb u 0 (u.cfg.hdrLen + u.len.toNat) := by
        obtain ⟨_, _, _, rfl⟩ := huv; rfl
      rw [hread]
      exact OutcomeRel.bind_read _ fun frame => .next (huv.emit _).phyAnswer

theorem UpToShadows.sendResult (h : UpToShadows s t) (ty : FrameType) (drq : Bool) (p : Bytes) :
    OutcomeRel UpToShadows (sendResult ty drq p s) (sendResult ty drq p t) :=
  (h.sendFrame ty drq p).bind fun _ _ ⟨hok, hu⟩ => hok ▸ hu.ret _

theorem UpToShadows.sendOrIdle (h : UpToShadows s t) (ty : FrameType) (p : Bytes) :
    OutcomeRel UpToShadows (sendOrIdle ty p s) (sendOrIdle ty p t) := by
  refine (h.sendFrame ty false p).bind fun r r' ⟨hok, hu⟩ => ?_
  rw [hok]
  split
  · exact .next hu
  · exact .next hu.idlePolicy

/-! ### Dispatch and reception -/

theorem UpToShadows.turnaround (h : UpToShadows s t) : OutcomeRel UpToShadows (turnaround s) (turnaround t) := by
  have hreply : memRead (Machine.phyActive t) (Machine.phyActive t).drspPtr (Machine.phyActive t).drspLen.toNat =
      memRead (Machine.phyActive s) (Machine.phyActive s).drspPtr (Machine.phyActive s).drspLen.toNat := by
    obtain ⟨_, _, _, rfl⟩ := h; rfl
  unfold Machine.turnaround
  dsimp only
  rw [hreply]
  exact h.phyActive.takeResponse.sendOrIdle _ _

theorem UpToShadows.dispatchDataOp (h : UpToShadows s t) :
    OutcomeRel UpToShadows (dispatchDataOp s) (dispatchDataOp t) := by
  obtain ⟨x, e, b, rfl⟩ := h
  refine OutcomeRel.bind_read (readFbByte s s.cfg.offCtl) fun c => ?_
  refine OutcomeRel.bind (UpToShadows.writeFb ⟨x, e, b, rfl⟩ _ _) fun u v huv => ?_
  obtain ⟨x, e, b, rfl⟩ := huv
  refine OutcomeRel.bind_read (readPayload u) fun p => ?_
  dsimp only
  split
  · exact .next (UpToShadows.emit ⟨x, e, b, rfl⟩ _).idlePolicy
  · exact .ite (UpToShadows.emit ⟨x, e, b, rfl⟩ _).turnaround
      (.next (UpToShadows.emit ⟨x, e, b, rfl⟩ _).idlePolicy)

theorem UpToShadows.answerLink (h : UpToShadows s t) (acc : Bool) :
    OutcomeRel UpToShadows (answerLink acc s) (answerLink acc t) := by
  unfold Machine.answerLink
  split
  · exact h.phyActive.sendOrIdle _ _
  · exact .next h.idlePolicy

theorem UpToShadows.dispatchLinkOp (h : UpToShadows s t) :
    OutcomeRel UpToShadows (dispatchLinkOp s) (dispatchLinkOp t) := by
  obtain ⟨x, e, b, rfl⟩ := h
  refine OutcomeRel.bind_read (readHeader s) fun hd => ?_
  dsimp only
  split
  · exact .next (UpToShadows.linkEstablish ⟨x, e, b, rfl⟩ _ _).idlePolicy
  · refine OutcomeRel.bind_read (readPayload s) fun p => ?_
    split
    · exact (UpToShadows.emit ⟨x, e, b, rfl⟩ _).answerLink _
    · exact UpToShadows.answerLink ⟨x, e, b, rfl⟩ _

theorem UpToShadows.processFrame (h : UpToShadows s t) :
    OutcomeRel UpToShadows (processFrame s) (processFrame t) := by
  have hread : readHeader t = readHeader s := by obtain ⟨_, _, _, rfl⟩ := h; rfl
  have hcfg : t.cfg = s.cfg := by obtain ⟨_, _, _, rfl⟩ := h; rfl
  have hverdict (hd : Header) : validateOp t hd = validateOp s hd := by obtain ⟨_, _, _, rfl⟩ := h; rfl
  unfold Machine.processFrame
  rw [hread]
  refine OutcomeRel.bind_read _ fun hd => ?_
  rw [hverdict, hcfg]
  split
  · exact h.rejectFrame _
  · split
    · exact h.rejectFrame _
    · exact h.dispatchDataOp
    · exact h.dispatchLinkOp

theorem UpToShadows.frameArrived (h : UpToShadows s t) (c : Byte) :
    OutcomeRel UpToShadows (frameArrived c s) (frameArrived c t) := by
  have hcfg : t.cfg = s.cfg := by obtain ⟨_, _, _, rfl⟩ := h; rfl
  unfold Machine.frameArrived
  rw [hcfg]
  exact (h.writeFb _ _).bind fun _ _ => UpToShadows.processFrame

theorem UpToShadows.receiveDone (h : UpToShadows s t) (env : Bytes) :
    OutcomeRel UpToShadows (receiveDone env s) (receiveDone env t) := by
  have hst : t.st = s.st := by obtain ⟨_, _, _, rfl⟩ := h; rfl
  by_cases hl : s.st = .listening
  · cases he : parseEnvelope env with
    | none => simp only [Machine.receiveDone, hst, hl, he]; exact .refused _
    | some e =>
      have htaken : UpToShadows (taken e s) (taken e t) := by obtain ⟨x, a, b, rfl⟩ := h; exact ⟨x, a, b, rfl⟩
      have hcfg : (taken e t).cfg = (taken e s).cfg := by obtain ⟨_, _, _, rfl⟩ := h; rfl
      rw [receiveDone_of_parse hl he, receiveDone_of_parse (hst.trans hl) he]
      unfold Machine.checkFrame
      rw [hcfg]
      split
      · exact htaken.rejectFrame _
      · exact htaken.processFrame
  · rw [Machine.receiveDone, Machine.receiveDone, hst, if_pos hl, if_pos hl]
    exact .refused _

theorem UpToShadows.transmitDone (h : UpToShadows s t) :
    OutcomeRel UpToShadows (Machine.transmitDone s) (Machine.transmitDone t) := by
  obtain ⟨x, e, b, rfl⟩ := h
  unfold Machine.transmitDone
  dsimp only
  split
  · exact .refused _
  · refine OutcomeRel.bind_read (readFbByte (completionEntry s) (completionEntry s).cfg.offCtl) fun c => ?_
    split
    · exact .next (UpToShadows.armRx ⟨x, e, b, rfl⟩)
    · refine .next (UpToShadows.idlePolicy ?_)
      unfold cbTxDone
      dsimp only [completionEntry]
      split <;> exact ⟨x, e, b, rfl⟩

theorem UpToShadows.initialise (h : UpToShadows s t) (pan addr : Bytes) (hook lrcb tocb : Bool) :
    OutcomeRel UpToShadows (initialise pan addr hook lrcb tocb s) (initialise pan addr hook lrcb tocb t) := by
  obtain ⟨x, e, b, rfl⟩ := h
  unfold Machine.initialise
  dsimp only
  split
  · exact .refused _
  · split
    · exact .refused _
    · refine .next ?_
      cases s.cfg.role with
      | gw => exact ⟨.unknown, true, lowByte s.cfg pan, rfl⟩
      | ep =>
        cases isBcast s.cfg pan with
        | true => exact ⟨.unknown, false, b, rfl⟩
        | false => exact ⟨.unknown, true, lowByte s.cfg pan, rfl⟩

theorem UpToShadows.readLatch (h : UpToShadows s t) (r : Result) :
    OutcomeRel UpToShadows (readLatch r s) (readLatch r t) := by
  obtain ⟨x, e, b, rfl⟩ := h
  unfold Machine.readLatch
  dsimp only
  split
  · exact .next ⟨x, e, b, rfl⟩
  · exact .refused _

end Shadows

/-! ### The operations -/

/-- A result after an operation. -/
theorem OutcomeRel.ret {o o' : Res} (h : OutcomeRel UpToShadows o o') (r : Result) :
    OutcomeRel UpToShadows (bindOutcome o (Machine.ret r)) (bindOutcome o' (Machine.ret r)) :=
  h.bind fun _ _ hu => hu.ret r

/-- Every operation reads the same in both runs, and does the same. -/
theorem UpToShadows.meaning {s t : State} (h : UpToShadows s t) (i : Instr) :
    OutcomeRel UpToShadows (meaning i s) (meaning i t) := by
  have link : linkExists t = linkExists s := by obtain ⟨_, _, _, rfl⟩ := h; rfl
  have hcfg : t.cfg = s.cfg := by obtain ⟨_, _, _, rfl⟩ := h; rfl
  have hbusy : t.busy = s.busy := by obtain ⟨_, _, _, rfl⟩ := h; rfl
  cases i with
  | init | fInit => exact (h.initialise _ _ _ _ _).ret _
  | linkestablish p r => exact (h.linkEstablish p r).ret _
  | linkdestroy | disconnect => exact h.linkDestroy.ret _
  | send | uSend | simpletransfer => exact h.sendResult _ _ _
  | setdrsp | loaddataresponse => exact (h.stageResponse _ _).ret _
  | edgeTx => exact h.transmitDone.bind fun _ _ hu => hu.retStatus
  | edgeRx env => exact (h.receiveDone env).bind fun _ _ hu => hu.retStatus
  | tick => exact h.tickOp.ret _
  | frameBuild => exact (h.buildFrame _ _ _).ret _
  | dispatchData => exact h.dispatchDataOp.ret _
  | dispatchLinkRequest => exact h.dispatchLinkOp.ret _
  | frameIdle => exact h.idlePolicy.ret _
  | timeoutHandler => exact h.timeoutOp.ret _
  | armReceive => exact h.armRx.ret _
  | fDataEp | fDataGw | fReserved => exact (h.frameArrived _).ret _
  | fLinkreqEp | fLinkreqGw =>
    rw [Machine.meaning, Machine.meaning, hcfg]
    exact (h.frameArrived _).ret _
  | listen =>
    rw [Machine.meaning, Machine.meaning, hbusy]
    split
    · exact (h.failWith _).ret _
    · exact h.armRx.ret _
  | connect p =>
    rw [Machine.meaning, Machine.meaning, link]
    split
    · exact h.ret _
    · exact (h.sendFrame _ _ _).bind fun _ _ ⟨_, hu⟩ => hu.ret _
  | transfer p =>
    rw [Machine.meaning, Machine.meaning, link]
    split
    · exact h.sendResult _ _ _
    · exact h.ret _
  | isbcast | linkexists | getlink | compare | busy | fBusy | getpan | rxCheck =>
    obtain ⟨_, _, _, rfl⟩ := h
    exact UpToShadows.ret ⟨_, _, _, rfl⟩ _
  | getrssi | getlqi | getcrc =>
    obtain ⟨_, _, _, rfl⟩ := h
    exact UpToShadows.readLatch ⟨_, _, _, rfl⟩ _
  | getlastsrc =>
    obtain ⟨_, _, _, rfl⟩ := h
    exact OutcomeRel.bind_read (readFb s s.cfg.offSrc s.cfg.addrW) fun _ => UpToShadows.ret ⟨_, _, _, rfl⟩ _
  | getlastseq =>
    obtain ⟨_, _, _, rfl⟩ := h
    exact OutcomeRel.bind_read (readFbByte s s.cfg.offSeq) fun _ => UpToShadows.ret ⟨_, _, _, rfl⟩ _
  | classify =>
    obtain ⟨_, _, _, rfl⟩ := h
    exact OutcomeRel.bind_read (readFbByte s s.cfg.offCtl) fun _ => UpToShadows.ret ⟨_, _, _, rfl⟩ _
  | validateEp | validateGw =>
    obtain ⟨_, _, _, rfl⟩ := h
    exact OutcomeRel.bind_read (readHeader s) fun _ => UpToShadows.ret ⟨_, _, _, rfl⟩ _

/-- Settles O59: admission reads `INITED` and the configuration, and the meaning runs alike. -/
theorem shadowsAreNeverRead : Obligations.ShadowsAreNeverRead := by
  intro i s
  refine mapOutcome_blankShadows_of_rel ?_
  rw [exec_eq_admitOp, exec_eq_admitOp, admitOp, admitOp, show inputRefusal (blankShadows s) _ = inputRefusal s _ from rfl]
  split
  · exact .refused _
  · exact .ite ((upToShadows_blank s).meaning i) (.refused _)

end Sys2Proof.Machine
end

section
/-! The invariant (O50, O51). Inside a step the node is `Midstep`: it has the invariant but for (I8), which a Gateway
breaks between taking a frame and arming the next receive. Each effect keeps `Midstep`, and each end of a step gives
(I8) back. -/

namespace Sys2Proof.Machine

/-- The part of the invariant about the identity and the registry. -/
structure Registered (s : State) : Prop where
  inited : s.inited = true
  cfg : s.cfg.valid = true
  hmWf : Memory.wf s.hm = true
  pendingWf : ∀ r ∈ s.pending, Memory.wf r.hostWrites = true
  panW : s.panid.length = s.cfg.panW
  locW : s.localAddr.length = s.cfg.addrW
  remW : s.cfg.role = .ep → s.remote.length = s.cfg.addrW
  gwPan : s.cfg.role = .gw → isBcast s.cfg s.panid = false
  fixedPan : s.cfg.role = .ep → s.fixed = true → isBcast s.cfg s.panid = false

/-- The part of the invariant about the frame buffer. -/
structure Buffered (s : State) : Prop where
  fbWf : Memory.wf s.fb = true
  fbBelow : Memory.below s.fb s.cfg.maxFrame = true
  i5 : s.len.toNat ≤ s.cfg.maxPayload
  frame : frameDefined s = true → (s.fb.readBytes 0 (s.cfg.hdrLen + s.len.toNat)).isSome

/-- The part of the invariant about the scheduler, without (I8). -/
structure Scheduled (s : State) : Prop where
  i1 : s.busy = true ↔ s.st ≠ .idle
  i2 : timeoutPending s = true → s.st = .listening ∧ s.rxto ≠ 0#16
  i3 : s.st = .listening ↔ s.fbtag = .rxArmed
  i4 : s.st = .transmitting → s.fbtag = .tx

/-- What holds of an initialised node at every point of a step. -/
structure Midstep (s : State) : Prop where
  reg : Registered s
  nvWf : Memory.wf s.nv = true
  buf : Buffered s
  sched : Scheduled s

theorem Inv.midstep {s : State} (h : Inv s) (hi : s.inited = true) : Midstep s := by
  obtain ⟨hc, hfw, hfb, hhm, hnv, hp, hw⟩ := h
  obtain ⟨i1, i2, i3, i4, i5, -, hpan, hloc, hrem, hgw, hfix, hfr⟩ := hw hi
  exact ⟨⟨hi, hc, hhm, hp, hpan, hloc, hrem, hgw, hfix⟩, hnv, ⟨hfw, hfb, i5, hfr⟩, ⟨i1, i2, i3, i4⟩⟩

theorem Midstep.inv {s : State} (h : Midstep s) (h8 : s.cfg.role = .gw → s.st = .idle → s.fbtag = .none) : Inv s := by
  obtain ⟨⟨hi, hc, hhm, hp, hpan, hloc, hrem, hgw, hfix⟩, hnv, ⟨hfw, hfb, i5, hfr⟩, ⟨i1, i2, i3, i4⟩⟩ := h
  exact ⟨hc, hfw, hfb, hhm, hnv, hp, fun _ => ⟨i1, i2, i3, i4, i5, h8, hpan, hloc, hrem, hgw, hfix, hfr⟩⟩

/-- An End Point has no (I8). -/
theorem Midstep.inv_ep {s : State} (h : Midstep s) (hr : s.cfg.role = .ep) : Inv s :=
  h.inv fun hg => by rw [hr] at hg; cases hg

theorem Registered.sized {s : State} (h : Registered s) : FieldsSized s := ⟨h.panW, h.locW, h.remW⟩

theorem Inv.sized {s : State} (h : Inv s) (hi : s.inited = true) : FieldsSized s := (h.midstep hi).reg.sized

/-! ### What each part depends on -/

theorem Registered.congr {s t : State} (h : Registered s) (hid : identity t = identity s)
    (hreg : registry t = registry s) : Registered t := by
  simp only [identity, Identity.mk.injEq, registry, Prod.mk.injEq] at hid hreg
  obtain ⟨hc, hhm, hp, hi, hl, hf, -⟩ := hid
  obtain ⟨hpan, hrem⟩ := hreg
  obtain ⟨h1, h2, h3, h4, h5, h6, h7, h8, h9⟩ := h
  constructor <;> simpa only [hc, hhm, hp, hi, hl, hf, hpan, hrem]

theorem Buffered.congr {s t : State} (h : Buffered s) (hc : t.cfg = s.cfg) (hf : t.fb = s.fb) (hl : t.len = s.len)
    (hd : frameDefined t = true → frameDefined s = true) : Buffered t := by
  obtain ⟨h1, h2, h3, h4⟩ := h
  constructor
  case frame => intro ht; simpa only [hc, hf, hl] using h4 (hd ht)
  all_goals simpa only [hc, hf, hl]

theorem Scheduled.congr {s t : State} (h : Scheduled s) (hc : t.cfg = s.cfg) (hb : t.busy = s.busy)
    (hs : t.st = s.st) (ht : t.fbtag = s.fbtag) (hx : t.rxto = s.rxto) (ha : t.rxtoAct = s.rxtoAct) :
    Scheduled t := by
  obtain ⟨h1, h2, h3, h4⟩ := h
  unfold timeoutPending at h2
  constructor <;> simpa only [timeoutPending, hc, hb, hs, ht, hx, ha]

/-- The registers the invariant speaks of; the others blanked. -/
def bare (s : State) : State :=
  { s with
    seq := 0#8, drspPtr := 0, drspLen := 0#8, lastRssi := 0#8, lastLqi := 0#7, lastCrc := false, lastV := false,
    radio := .unknown, afEn := false, afByte := 0#8, out := [], result := none, cause := none, freeCtr := 0 }

theorem Midstep.bare_iff (s : State) : Midstep (bare s) ↔ Midstep s :=
  ⟨fun h => ⟨h.reg.congr rfl rfl, h.nvWf, h.buf.congr rfl rfl rfl id, h.sched.congr rfl rfl rfl rfl rfl rfl⟩,
    fun h => ⟨h.reg.congr rfl rfl, h.nvWf, h.buf.congr rfl rfl rfl id, h.sched.congr rfl rfl rfl rfl rfl rfl⟩⟩

theorem Midstep.congr {s t : State} (h : Midstep s) (he : bare t = bare s) : Midstep t :=
  (bare_iff t).mp (he ▸ (bare_iff s).mpr h)

/-- A change of the registers the invariant does not speak of. -/
theorem Inv.congr {s t : State} (h : Inv s) (hi : s.inited = true) (he : bare t = bare s) : Inv t := by
  refine ((h.midstep hi).congr he).inv fun hr hst => ?_
  have hrole : t.cfg.role = s.cfg.role := (congrArg (fun x => x.cfg.role) he :)
  have hst' : t.st = s.st := (congrArg State.st he :)
  have htag : t.fbtag = s.fbtag := (congrArg State.fbtag he :)
  rw [htag]
  exact (h.working hi).i8 (hrole ▸ hr) (hst' ▸ hst)

/-! ### The effects -/

section Effects

variable {s : State}

theorem Registered.maxFrame_le (h : Registered s) : s.cfg.maxFrame ≤ 255 := by
  obtain ⟨-, -, -, hm, -⟩ := (Config.valid_iff _).mp h.cfg
  exact hm

theorem Registered.rxtoTicks_ne_zero (h : Registered s) : BitVec.ofNat 16 s.cfg.rxtoTicks ≠ 0#16 := by
  obtain ⟨-, -, -, -, -, -, h1, h2⟩ := (Config.valid_iff _).mp h.cfg
  intro h0
  have := congrArg BitVec.toNat h0
  simp only [BitVec.toNat_ofNat] at this
  omega

/-- While nothing is in flight no timeout is pending. -/
theorem Scheduled.timeoutPending_eq_false (h : Scheduled s) (hst : s.st ≠ .listening) : timeoutPending s = false :=
  Bool.eq_false_of_not_eq_true fun hp => hst (h.i2 hp).1

theorem Scheduled.idle (h : Scheduled s) (hb : s.busy = false) : s.st = .idle := by
  by_contra hst
  rw [h.i1.mpr hst] at hb
  cases hb

theorem Midstep.armed (h : Midstep s) : Midstep (armed s) where
  reg := h.reg.congr rfl rfl
  nvWf := h.nvWf
  buf := ⟨rfl, rfl, h.buf.i5, nofun⟩
  sched := by
    refine ⟨iff_of_true rfl nofun, fun hp => ⟨rfl, ?_⟩, iff_of_true rfl rfl, nofun⟩
    have hx : s.cfg.hasRxto = true := (Bool.and_eq_true _ _ ▸ hp :).1
    have he : (Machine.armed s).rxto = BitVec.ofNat 16 s.cfg.rxtoTicks := if_pos hx
    rw [he]
    exact h.reg.rxtoTicks_ne_zero

/-- The idle policy gives (I8) back: a Gateway listens. -/
theorem Midstep.inv_idled (h : Midstep s) : Inv (idled s) := by
  cases hr : s.cfg.role with
  | ep => rw [idled_ep hr]; exact Midstep.inv_ep (h.congr rfl) hr
  | gw =>
    rw [idled_gw hr]
    exact Midstep.inv (Midstep.armed (h.congr rfl)) fun _ => nofun

theorem wf_persisted_nv (h : Memory.wf s.nv = true) : Memory.wf (persisted s).nv = true := by
  unfold persisted
  split
  · exact Memory.wf_writeBytes _ _ h
  · exact h

theorem wf_linked_nv (h : Memory.wf s.nv = true) (p r : Bytes) : Memory.wf (linked p r s).nv = true := by
  unfold linked
  split <;> exact wf_persisted_nv h

theorem wf_unlinked_nv (h : Memory.wf s.nv = true) : Memory.wf (unlinked s).nv = true := by
  unfold unlinked
  split <;> exact wf_persisted_nv h

theorem bare_linked (p r : Bytes) (s : State) : bare (linked p r s) =
    bare { s with panid := if s.fixed then s.panid else p, remote := r, nv := (linked p r s).nv } := by
  cases hf : s.fixed <;> cases hh : s.hook <;> simp [linked, persisted, bare, hf, hh]

theorem bare_unlinked (s : State) : bare (unlinked s) =
    bare { s with
      panid := if s.fixed then s.panid else List.replicate s.cfg.panW s.cfg.bcast,
      remote := List.replicate s.cfg.addrW s.cfg.bcast, nv := (unlinked s).nv } := by
  cases hf : s.fixed <;> cases hh : s.hook <;> simp [unlinked, persisted, bare, hf, hh]

/-- A change of an End Point's link that keeps a fixed PAN id. -/
theorem Midstep.relink (h : Midstep s) (hr : s.cfg.role = .ep) {pan rem : Bytes} {nv : Memory}
    (hp : pan.length = s.cfg.panW) (hrem : rem.length = s.cfg.addrW) (hnv : Memory.wf nv = true) :
    Midstep { s with panid := if s.fixed then s.panid else pan, remote := rem, nv := nv } := by
  obtain ⟨hi, hc, hhm, hpend, hpan, hloc, -, -, hfix⟩ := h.reg
  refine ⟨⟨hi, hc, hhm, hpend, ?_, hloc, fun _ => hrem, fun hg => ?_, fun _ hf => ?_⟩, hnv, h.buf.congr rfl rfl rfl id,
    h.sched.congr rfl rfl rfl rfl rfl rfl⟩
  · dsimp only
    split
    · exact hpan
    · exact hp
  · cases hr.symm.trans hg
  · have hkept : (if s.fixed then s.panid else pan) = s.panid := if_pos hf
    dsimp only
    rw [hkept]
    exact hfix hr hf

theorem Midstep.linked (h : Midstep s) (hr : s.cfg.role = .ep) {p r : Bytes} (hp : p.length = s.cfg.panW)
    (hrem : r.length = s.cfg.addrW) : Midstep (linked p r s) :=
  (h.relink hr hp hrem (wf_linked_nv h.nvWf p r)).congr (bare_linked p r s)

theorem Midstep.unlinked (h : Midstep s) (hr : s.cfg.role = .ep) : Midstep (unlinked s) :=
  (h.relink hr List.length_replicate List.length_replicate (wf_unlinked_nv h.nvWf)).congr (bare_unlinked s)

/-- What reads before a store reads after it. -/
theorem Memory.isSome_readBytes_writeBytes {m : Memory} {a n : Nat} (h : (m.readBytes a n).isSome) (off : Nat)
    (bs : Bytes) : ((m.writeBytes off bs).readBytes a n).isSome := by
  obtain ⟨b, hb⟩ := Option.isSome_iff_exists.mp h
  induction n generalizing a b with
  | zero => rfl
  | succ n ih =>
    obtain ⟨hl, hread⟩ := (Memory.readBytes_eq_some ..).mp hb
    have hhead : ((m.writeBytes off bs).read a).isSome := by
      rw [Memory.read_writeBytes]
      split
      next hin => rw [List.getElem?_eq_getElem (by omega)]; rfl
      next => rw [← Nat.add_zero a, hread 0 (by omega), List.getElem?_eq_getElem (by omega)]; rfl
    have htail := Memory.readBytes_part (k := 1) (l := n) hb (by omega)
    obtain ⟨v, hv⟩ := Option.isSome_iff_exists.mp hhead
    obtain ⟨vs, hvs⟩ := Option.isSome_iff_exists.mp (ih (Option.isSome_iff_exists.mpr ⟨_, htail⟩) _ htail)
    simp only [Memory.readBytes, hv, hvs, Option.isSome_some]

theorem Midstep.storeCtl (h : Midstep s) {m : Memory} (hm : CtlStored s m) : Midstep { s with fb := m } := by
  obtain rfl | ⟨c, rfl⟩ := hm
  · exact h
  · have hoff := Config.offCtl_lt_maxFrame h.reg.cfg
    refine ⟨h.reg.congr rfl rfl, h.nvWf, ⟨?_, ?_, h.buf.i5, fun hd => ?_⟩, h.sched.congr rfl rfl rfl rfl rfl rfl⟩
    · exact Memory.wf_writeBytes _ _ h.buf.fbWf
    · exact Memory.below_writeBytes _ h.buf.fbBelow hoff
    · exact Memory.isSome_readBytes_writeBytes (h.buf.frame hd) _ _

theorem HoldsFrame.buffered {hd : Header} {p : Bytes} (H : HoldsFrame s hd p) (hw : Memory.wf s.fb = true)
    (hb : Memory.below s.fb s.cfg.maxFrame = true) : Buffered s := by
  refine ⟨hw, hb, ?_, fun _ => by rw [H.len, H.bytes]; rfl⟩
  have := H.fits
  have := H.len
  simp only [Config.maxPayload]
  omega

/-- A build writes a whole frame and nothing else the invariant speaks of. -/
theorem Midstep.builtTo (h : Midstep s) (hst : s.st = .idle) {d p : Bytes} {ty : FrameType} {drq : Bool}
    (hd : d.length = s.cfg.addrW) (hfit : p.length + s.cfg.hdrLen ≤ s.cfg.maxFrame) :
    Midstep (builtTo d ty drq p s) := by
  refine ⟨h.reg.congr rfl rfl, h.nvWf, ?_, ⟨h.sched.i1, h.sched.i2, ?_, fun _ => rfl⟩⟩
  · refine (holdsFrame_builtTo h.reg.maxFrame_le h.reg.panW h.reg.locW hd hfit).buffered
      (Memory.wf_writeBytes _ _ h.buf.fbWf) (Memory.below_writeBytes _ h.buf.fbBelow ?_)
    rw [builtFrame_length h.reg.panW h.reg.locW hd, Nat.zero_add, Nat.add_comm]
    exact hfit
  · have hidle : (Machine.builtTo d ty drq p s).st = .idle := hst
    rw [hidle]
    exact iff_of_false nofun nofun

/-- A frame handed over is in flight, or it stands in `FB` of a node at rest. -/
theorem Midstep.answered (h : Midstep s) (hst : s.st = .idle) (ht : s.fbtag = .tx) (b : Bytes) :
    Midstep (answered s b) := by
  unfold Machine.answered
  split
  · refine ⟨h.reg.congr rfl rfl, h.nvWf, h.buf.congr rfl rfl rfl id, iff_of_true rfl nofun, fun hp => ?_, ?_,
      fun _ => ht⟩
    · have hpend : timeoutPending s = true := hp
      rw [h.sched.timeoutPending_eq_false (by rw [hst]; decide)] at hpend
      cases hpend
    · exact iff_of_false nofun (by rw [ht]; decide)
  · exact h.congr rfl

theorem SendEnd.midstep {t : State} {ty : FrameType} {drq ok : Bool} {p : Bytes} (hs : SendEnd s ty drq p ok t)
    (h : Midstep s) : Midstep t := by
  cases hs with
  | contention | capacity => exact h.congr rfl
  | handedOver hb hfit hdst =>
    have hidle := h.sched.idle hb
    exact (h.builtTo hidle (length_of_buildDest h.reg.sized hdst) hfit).answered hidle rfl _

theorem SendEnd.transmitting {t : State} {ty : FrameType} {drq ok : Bool} {p : Bytes}
    (hs : SendEnd s ty drq p ok t) (hok : ok = true) : t.st = .transmitting := by
  cases hs with
  | contention | capacity => cases hok
  | handedOver => unfold Machine.answered; rw [if_pos (by exact hok)]

theorem Processed.inv {t : State} (hp : Processed s t) (h : Midstep s) : Inv t := by
  cases hp with
  | rejected c => exact Midstep.inv_idled (h.congr rfl)
  | told hm ha => exact Midstep.inv_idled ((h.storeCtl hm).congr rfl)
  | linked hr hf => exact (h.linked hr hf.pan hf.src).inv_idled
  | answered hr hm ha ht =>
    refine (ht.midstep ((h.storeCtl hm).congr rfl)).inv fun _ hst => ?_
    rw [ht.transmitting rfl] at hst
    cases hst
  | unanswered hr hm ha ht => exact (ht.midstep ((h.storeCtl hm).congr rfl)).inv_idled

/-- An envelope that can be taken apart is made of its parts (30_encoding R100). -/
theorem parseEnvelope_spec {env : Bytes} {e : Envelope} (h : parseEnvelope env = some e) :
    e.frame.length = e.n ∧ env = [BitVec.ofNat 8 e.n] ++ e.frame ++ [e.rssi] ++ [e.lq] := by
  cases env with
  | nil => cases h
  | cons n rest =>
    simp only [parseEnvelope] at h
    split at h
    next rssi lq hd =>
      cases h
      have hl := congrArg List.length hd
      rw [List.length_drop, List.length_cons, List.length_singleton] at hl
      refine ⟨List.length_take_of_le (by omega), ?_⟩
      have := List.take_append_drop n.toNat rest
      rw [hd] at this
      simp [this]
    next => cases h

/-- Taking a frame from the air: whole where its length is in bounds, else no frame. -/
theorem Midstep.taken (h : Midstep s) {env : Bytes} {e : Envelope} (he : parseEnvelope env = some e) :
    Midstep (taken e s) := by
  have hlen := (parseEnvelope_spec he).1
  have hmax := h.reg.maxFrame_le
  have htag : (Machine.taken e s).fbtag = if s.cfg.hdrLen ≤ e.n ∧ e.n ≤ s.cfg.maxFrame then .rx else .none := rfl
  refine ⟨h.reg.congr rfl rfl, h.nvWf, ⟨?_, ?_, ?_, fun hd => ?_⟩, iff_of_false nofun (not_not_intro rfl), fun hp => ?_,
    iff_of_false nofun ?_, nofun⟩
  · unfold Machine.taken received
    dsimp only
    split
    · exact Memory.wf_writeBytes _ _ h.buf.fbWf
    · exact h.buf.fbWf
  · unfold Machine.taken received
    dsimp only
    split
    · exact Memory.below_writeBytes _ h.buf.fbBelow (by omega)
    · exact h.buf.fbBelow
  · have h5 := h.buf.i5
    unfold Machine.taken received
    dsimp only
    split
    · simp only [BitVec.toNat_ofNat, Config.maxPayload]; omega
    · exact h5
  · have hin : s.cfg.hdrLen ≤ e.n ∧ e.n ≤ s.cfg.maxFrame := by
      by_contra hout
      rw [if_neg hout] at htag
      rw [frameDefined, htag] at hd
      cases hd
    have hfb : (Machine.taken e s).fb = s.fb.writeBytes 0 e.frame := if_pos hin.2
    have hl : (Machine.taken e s).len = BitVec.ofNat 8 (e.n - s.cfg.hdrLen) := if_pos hin
    have hn : (Machine.taken e s).cfg.hdrLen + (Machine.taken e s).len.toNat = e.frame.length := by
      rw [hl, hlen, BitVec.toNat_ofNat, Nat.mod_eq_of_lt (by omega)]
      exact Nat.add_sub_cancel' hin.1
    rw [hn, hfb, Memory.readBytes_writeBytes_self]
    rfl
  · rw [timeoutPending_iff] at hp
    obtain ⟨hr, hen, hact⟩ := hp
    have hx : s.cfg.hasRxto = true := (hasRxto_iff _).mpr ⟨hr, hen⟩
    have hoff : (Machine.taken e s).rxtoAct = false := if_pos hx
    rw [hoff] at hact
    cases hact
  · rw [htag]
    split <;> decide

theorem Midstep.inv_txEnded (h : Midstep s) (hst : s.st = .transmitting) (c : Byte) : Inv (txEnded c s) := by
  have htag := h.sched.i4 hst
  unfold txEnded
  split
  · exact h.armed.inv fun _ => nofun
  · refine Midstep.inv_idled ?_
    have hend : Midstep (completionEntry s) := by
      refine ⟨h.reg.congr rfl rfl, h.nvWf, h.buf.congr rfl rfl rfl id, iff_of_false nofun (not_not_intro rfl),
        fun hp => ?_, iff_of_false nofun ?_, nofun⟩
      · have hpend : timeoutPending s = true := hp
        rw [h.sched.timeoutPending_eq_false (by rw [hst]; decide)] at hpend
        cases hpend
      · show s.fbtag ≠ .rxArmed
        rw [htag]; decide
    unfold cbTxDone
    split <;> exact hend.congr rfl

/-- A tick keeps the invariant: it counts above one, and at one the handler leaves an End Point at rest. -/
theorem Inv.tickOp (h : Inv s) (hi : s.inited = true) : Inv (tickOp s) := by
  cases hp : timeoutPending s with
  | false => rwa [tickOp_of_not_pending hp]
  | true =>
    have hm := h.midstep hi
    obtain ⟨hr, -⟩ := (timeoutPending_iff s).mp hp
    obtain ⟨hst, hx⟩ := hm.sched.i2 hp
    by_cases h1 : s.rxto = 1#16
    · rw [tickOp_fires hp h1, timeoutOp_ep (by exact hr)]
      refine Midstep.inv_ep ?_ hr
      refine ⟨hm.reg.congr rfl rfl, hm.nvWf, hm.buf.congr rfl rfl rfl nofun, iff_of_false nofun (not_not_intro rfl),
        fun hp' => ?_, iff_of_false nofun nofun, nofun⟩
      obtain ⟨-, -, hact⟩ := (timeoutPending_iff _).mp hp'
      cases hact
    · rw [tickOp_counts hp h1]
      refine Midstep.inv_ep ?_ hr
      refine ⟨hm.reg.congr rfl rfl, hm.nvWf, hm.buf.congr rfl rfl rfl id, hm.sched.i1, fun _ => ⟨hst, ?_⟩, hm.sched.i3,
        hm.sched.i4⟩
      show s.rxto - 1#16 ≠ 0#16
      bv_omega

end Effects

/-! ### The steps -/

/-- A Gateway at rest holds no frame to answer, so what it sends is never built. -/
theorem buildDest_role {s : State} {d : Bytes} (h : Inv s) (hi : s.inited = true) (hb : s.busy = false)
    (hdst : buildDest s = .next d) : s.cfg.role = .ep := by
  cases hr : s.cfg.role with
  | ep => rfl
  | gw =>
    have htag := (h.working hi).i8 hr ((h.midstep hi).sched.idle hb)
    simp only [buildDest, hr, readFb_of_undefined ((frameDefined_eq_false_iff s).mpr (.inl htag))] at hdst
    cases hdst

theorem SendEnd.inv {s t : State} {ty : FrameType} {drq ok : Bool} {p : Bytes} (hs : SendEnd s ty drq p ok t)
    (h : Inv s) (hi : s.inited = true) : Inv t := by
  have hm := hs.midstep (h.midstep hi)
  cases hs with
  | contention | capacity => exact h.congr hi rfl
  | handedOver hb hfit hdst =>
    have hr := buildDest_role h hi hb hdst
    exact hm.inv_ep (by rw [answered_cfg]; exact hr)

/-- Every input of an initialised node keeps the invariant. -/
theorem Ran.inv {s t : State} {i : Instr} (hr : Ran s i t) (h : Inv s) (hi : s.inited = true) : Inv t := by
  have hm := h.midstep hi
  have hit : t.inited = true := (congrArg Identity.inited hr.identity).trans hi
  cases hr with
  | query | listenBusy | staged => exact h.congr hi rfl
  | link hr hp hl => exact Inv.congr ((hm.linked hr hp hl).inv_ep ((linked_cfg ..).symm ▸ hr)) hit rfl
  | unlink hr => exact Inv.congr ((hm.unlinked hr).inv_ep ((unlinked_cfg _).symm ▸ hr)) hit rfl
  | listen hb => exact Inv.congr (hm.armed.inv fun _ => nofun) hit rfl
  | sent hs hu => exact Inv.congr (hu.inv h hi) hit rfl
  | transmitted hst hc => exact Inv.congr (hm.inv_txEnded hst _) hit rfl
  | received hst he ht => exact Inv.congr (ht.inv (hm.taken he)) hit rfl
  | ticked => exact Inv.congr (h.tickOp hi) hit rfl

/-- The delivery of an input keeps the invariant. -/
theorem Inv.deliver {s : State} {r : Request} {rest : List Request} (h : Inv s) (hp : s.pending = r :: rest) :
    Inv (deliver r rest s) := by
  obtain ⟨hc, hfw, hfb, hhm, hnv, hpw, hw⟩ := h
  refine ⟨hc, hfw, hfb, Memory.wf_writeCells _ hhm, hnv, fun q hq => hpw q (hp ▸ List.mem_cons_of_mem _ hq), fun hi => ?_⟩
  obtain ⟨i1, i2, i3, i4, i5, i8, hpan, hloc, hrem, hgw, hfix, hfr⟩ := hw hi
  exact ⟨i1, i2, i3, i4, i5, i8, hpan, hloc, hrem, hgw, hfix, hfr⟩

/-- Before `INIT` only the byte spaces and the configuration are constrained. -/
theorem Inv.of_not_inited {s t : State} (h : Inv s) (hi : t.inited = false) (hc : t.cfg = s.cfg) (hf : t.fb = s.fb)
    (hhm : t.hm = s.hm) (hnv : t.nv = s.nv) (hp : t.pending = s.pending) : Inv t := by
  obtain ⟨h1, h2, h3, h4, h5, h6, -⟩ := h
  refine ⟨?_, ?_, ?_, ?_, ?_, ?_, fun hi' => by rw [hi] at hi'; cases hi'⟩
  all_goals simpa only [hc, hf, hhm, hnv, hp]

section Started

variable {s : State} {pan addr : Bytes}

theorem Inv.epStarted (h : Inv s) (hr : s.cfg.role = .ep) (hp : pan.length = s.cfg.panW)
    (ha : addr.length = s.cfg.addrW) (hook tocb : Bool) : Inv (epStarted pan addr hook tocb s) := by
  refine ⟨h.cfg, rfl, rfl, h.hmWf, h.nvWf, h.pendingWf, fun _ => ⟨iff_of_false nofun (not_not_intro rfl), fun hp => ?_,
    iff_of_false nofun nofun, nofun, Nat.zero_le _, fun _ _ => rfl, hp, ha, fun _ => List.length_replicate,
    fun hg => ?_, fun _ hf => ?_, nofun⟩⟩
  · obtain ⟨hr', hen, hact⟩ := (timeoutPending_iff _).mp hp
    have hx : s.cfg.hasRxto = true := (hasRxto_iff _).mpr ⟨hr', hen⟩
    have hoff : (Machine.epStarted pan addr hook tocb s).rxtoAct = false := if_pos hx
    rw [hoff] at hact
    cases hact
  · cases hr.symm.trans hg
  · simpa [Machine.epStarted] using hf

theorem Inv.gwStarted (h : Inv s) (hr : s.cfg.role = .gw) (hp : pan.length = s.cfg.panW)
    (ha : addr.length = s.cfg.addrW) (hb : isBcast s.cfg pan = false) (lrcb : Bool) :
    Inv (gwStarted pan addr lrcb s) := by
  have hep : ¬ s.cfg.role = .ep := by rw [hr]; decide
  refine ⟨h.cfg, rfl, rfl, h.hmWf, h.nvWf, h.pendingWf, fun _ => ⟨iff_of_false nofun (not_not_intro rfl), fun hp => ?_,
    iff_of_false nofun nofun, nofun, Nat.zero_le _, fun _ _ => rfl, hp, ha, fun he => (hep he).elim,
    fun _ => hb, fun he => (hep he).elim, nofun⟩⟩
  exact (hep ((timeoutPending_iff _).mp hp).1).elim

end Started

/-- Every input keeps the invariant. -/
theorem inv_exec {s t : State} {i : Instr} (h : Inv s) (hin : i.isInput = true) (he : exec i s = .next t) : Inv t := by
  cases hi : s.inited with
  | true => exact (ran_of_exec hi hin he).inv h hi
  | false =>
    obtain ⟨r, rfl⟩ | ⟨pan, addr, hook, tocb, r, hr, hp, ha, rfl⟩ | ⟨pan, addr, lrcb, r, hr, hp, ha, hb, rfl⟩ :=
      started_of_exec hi he
    · exact h.of_not_inited hi rfl rfl rfl rfl rfl
    · exact Inv.congr (h.epStarted hr hp ha hook tocb) rfl rfl
    · exact Inv.congr (h.gwStarted hr hp ha hb lrcb) rfl rfl

/-- Settles O51: a step waits, or delivers an input and runs it. -/
theorem stepKeepsInvariant : Obligations.StepKeepsInvariant := by
  intro s t h hs
  obtain ⟨-, he⟩ | ⟨-, ⟨-, he⟩ | ⟨r, rest, hp, ⟨i, -, hin, he⟩ | ⟨e, he⟩⟩⟩ := step_cases s
  · cases he.symm.trans hs
  · cases he.symm.trans hs
    exact h
  · exact inv_exec (h.deliver hp) hin (he ▸ hs)
  · cases he.symm.trans hs

theorem inv_powerOn {c : Config} (hv : c.valid = true) : Inv (State.powerOn c) :=
  ⟨hv, rfl, rfl, rfl, rfl, nofun, nofun⟩

/-- Settles O50: nothing is stored at power-on, and the rest is claimed once initialised. -/
theorem invariantHoldsAtReset : Obligations.InvariantHoldsAtReset :=
  ⟨inv_powerOn (by decide), fun _ => inv_powerOn⟩

end Sys2Proof.Machine
end

section
/-! A frame in flight (O57). -/

namespace Sys2Proof.Machine

/-- What an input must leave alone while a frame is in flight. -/
def inFlight (s : State) : Memory × Byte × FbTag × ProtState × Bool := (s.fb, s.len, s.fbtag, s.st, s.busy)

theorem SendEnd.inFlight {s t : State} {ty : FrameType} {drq ok : Bool} {p : Bytes} (hs : SendEnd s ty drq p ok t)
    (hb : s.busy = true) : inFlight t = inFlight s := by
  cases hs with
  | contention => rfl
  | capacity hfree | handedOver hfree => cases hb.symm.trans hfree

/-- While transmitting, a send and `LISTEN` find the node busy, no frame is taken and no timeout is pending. -/
theorem Ran.inFlight {s t : State} {i : Instr} (hr : Ran s i t) (h : Scheduled s) (hst : s.st = .transmitting)
    (hi : i ≠ .edgeTx) : inFlight t = inFlight s := by
  have hbusy : s.busy = true := h.i1.mpr (by rw [hst]; decide)
  cases hr with
  | query | listenBusy | staged => rfl
  | link => simp [Machine.inFlight, answering]
  | unlink => simp [Machine.inFlight, answering]
  | listen hb => cases hbusy.symm.trans hb
  | sent hs hu => exact hu.inFlight hbusy
  | transmitted => exact absurd rfl hi
  | received hl => cases hst.symm.trans hl
  | ticked => rw [tickOp_of_not_pending (h.timeoutPending_eq_false (by rw [hst]; decide))]; rfl

/-- Settles O57: no input but `EDGE_TX` writes what is in flight, and what is handed over stands in `FB`. -/
theorem frameInFlightIsStable : Obligations.FrameInFlightIsStable := by
  intro s t r rest h hi hp hs
  obtain ⟨i, hd, hin, he⟩ := step_eq_next_of_pending hp hs
  have hran := ran_of_exec (s := deliver r rest s) hi hin he
  have hsched : Scheduled s := (h.midstep hi).sched
  refine ⟨fun hst hne => ?_, fun ht b hb => ?_⟩
  · have hi' : i ≠ .edgeTx := fun hi' => hne (hi' ▸ hd)
    have hkept := hran.inFlight (hsched.congr rfl rfl rfl rfl rfl rfl) hst hi'
    simp only [Machine.inFlight, Prod.mk.injEq] at hkept
    obtain ⟨hfb, hlen, htag, hst', hbusy⟩ := hkept
    exact ⟨hfb, hlen, htag, hst'.trans hst, hbusy.trans (hsched.i1.mpr (by rw [hst]; decide))⟩
  · obtain ⟨fs, ⟨hout, -⟩, hone⟩ := hran.frames
    have hout : framesSent t.out = fs := hout
    rw [hout] at hb
    cases hone with
    | none => cases hb
    | one hread =>
      obtain rfl := List.mem_singleton.mp hb
      exact hread ht

end Sys2Proof.Machine
end

section
/-! What goes on (O53, O52). A defined frame is a held one, so every read of it answers; a send then ends as it may, and
so does a reception. -/

namespace Sys2Proof.Machine

/-- The bytes of a frame are the header parsed from them and the rest (41_frame_build R150). -/
theorem headerBytes_parseHeader {c : Config} {bs : Bytes} (h : c.hdrLen ≤ bs.length) :
    headerBytes (parseHeader c bs) ++ bs.drop c.hdrLen = bs := by
  obtain ⟨hctl, hseq, hlen, hsrc, hdst⟩ := offsets_eq c
  have hc : c.offCtl < bs.length := by omega
  have hs : c.offSeq < bs.length := by omega
  have tail : [bs.getD c.offCtl 0#8, bs.getD c.offSeq 0#8] ++ bs.drop c.hdrLen = bs.drop c.offCtl := by
    have e1 : c.offCtl + 1 = c.offSeq := by omega
    have e2 : c.offSeq + 1 = c.hdrLen := by omega
    rw [List.drop_eq_getElem_cons hc, e1, List.drop_eq_getElem_cons hs, e2, List.getD_eq_getElem _ _ hc,
      List.getD_eq_getElem _ _ hs]
    rfl
  have part (a n b : Nat) (e : a + n = b) : (bs.drop a).take n ++ bs.drop b = bs.drop a := by
    rw [← e, ← List.drop_drop, List.take_append_drop]
  simp only [headerBytes, parseHeader, List.append_assoc]
  rw [tail, part _ _ _ (show c.offSrc + c.addrW = c.offCtl by omega),
    part _ _ _ (show c.offDst + c.addrW = c.offSrc by omega), hdst, List.take_append_drop]

theorem parseHeader_fits {c : Config} {bs : Bytes} (h : c.hdrLen ≤ bs.length) : (parseHeader c bs).Fits c := by
  obtain ⟨-, -, hlen, hsrc, hdst⟩ := offsets_eq c
  constructor <;> simp only [parseHeader, List.length_take, List.length_drop] <;> omega

section GoesOn

variable {s : State}

/-- With the invariant a defined frame is a whole one. -/
theorem Midstep.holdsFrame (h : Midstep s) (hd : frameDefined s = true) : ∃ hd p, HoldsFrame s hd p := by
  obtain ⟨bs, hbs⟩ := Option.isSome_iff_exists.mp (h.buf.frame hd)
  have hlen := ((Memory.readBytes_eq_some ..).mp hbs).1
  obtain ⟨hpan, hdst, hsrc⟩ := parseHeader_fits (c := s.cfg) (bs := bs) (by omega)
  obtain ⟨-, -, hmin, -⟩ := (Config.valid_iff _).mp h.reg.cfg
  have h5 : s.len.toNat ≤ s.cfg.maxFrame - s.cfg.hdrLen := h.buf.i5
  have hrest : (bs.drop s.cfg.hdrLen).length = s.len.toNat := by rw [List.length_drop]; omega
  refine ⟨_, bs.drop s.cfg.hdrLen, ?_, hpan, hdst, hsrc, hrest.symm, by omega, ?_⟩
  · simpa [frameDefined] using hd
  · rw [headerBytes_parseHeader (by omega), hrest, hbs]

theorem sendFrame_goesOn_of_dest (hv : s.cfg.valid = true) (F : FieldsSized s) {d : Bytes}
    (hdst : buildDest s = .next d) (ty : FrameType) (drq : Bool) (p : Bytes) :
    ∃ r, sendFrame ty drq p s = .next r := by
  obtain ⟨-, -, -, hm, -⟩ := (Config.valid_iff _).mp hv
  cases hb : s.busy with
  | true => exact ⟨_, sendFrame_busy hb⟩
  | false =>
    by_cases hfit : p.length + s.cfg.hdrLen ≤ s.cfg.maxFrame
    · exact ⟨_, sendFrame_eq hb hm hdst F.pan F.loc (length_of_buildDest F hdst) hfit⟩
    · exact ⟨_, sendFrame_tooLong hb (by omega)⟩

/-- A Gateway with the invariant sends, or it has nothing in `FB`. -/
theorem sendFrame_goesOn_gw (h : Inv s) (hi : s.inited = true) (hr : s.cfg.role = .gw) (ty : FrameType) (drq : Bool)
    (p : Bytes) : (∃ r, sendFrame ty drq p s = .next r) ∨
      (sendFrame ty drq p s = .refused .uFbUndefined ∧ s.fbtag = .none) := by
  cases hb : s.busy with
  | true => exact .inl ⟨_, sendFrame_busy hb⟩
  | false =>
    by_cases hfit : p.length + s.cfg.hdrLen ≤ s.cfg.maxFrame
    · have htag := (h.working hi).i8 hr ((h.midstep hi).sched.idle hb)
      have hd := (frameDefined_eq_false_iff s).mpr (.inl htag)
      exact .inr ⟨sendFrame_undefined hr hd hb hfit ty drq, htag⟩
    · exact .inl ⟨_, sendFrame_tooLong hb (by omega)⟩

theorem buildDest_of_held {h : Header} {p : Bytes} (H : HoldsFrame s h p) : ∃ d, buildDest s = .next d := by
  unfold buildDest
  split
  · exact ⟨_, rfl⟩
  · exact ⟨_, H.readFb_src⟩

section Held

variable {h : Header} {p : Bytes}

theorem HoldsFrame.sendOrIdle_goesOn (H : HoldsFrame s h p) (hv : s.cfg.valid = true) (F : FieldsSized s)
    (ty : FrameType) (q : Bytes) : ∃ t, sendOrIdle ty q s = .next t := by
  obtain ⟨d, hd⟩ := buildDest_of_held H
  obtain ⟨r, hr⟩ := sendFrame_goesOn_of_dest hv F hd ty false q
  exact ⟨_, by rw [sendOrIdle, hr, bindOutcome_next]⟩

theorem HoldsFrame.dispatchDataOp_goesOn (H : HoldsFrame s h p) (hv : s.cfg.valid = true) (F : FieldsSized s) :
    ∃ t, dispatchDataOp s = .next t := by
  cases hr : s.cfg.role with
  | ep => exact ⟨_, dispatchDataOp_ep H hr⟩
  | gw =>
    by_cases hn : h.ctl.getLsbD 1 = false ∨ s.drspLen = 0#8
    · exact ⟨_, dispatchDataOp_gw H hr hn⟩
    · obtain ⟨hq, h0⟩ := not_or.mp hn
      rw [dispatchDataOp_asked H hr (by simpa using hq) h0]
      refine HoldsFrame.sendOrIdle_goesOn (h := { h with ctl := h.ctl &&& 0xFD#8 }) (p := p) ?_ ?_ ?_ _ _
      exacts [(H.setCtl _).congr rfl rfl rfl rfl, hv, ⟨F.pan, F.loc, F.rem⟩]

theorem HoldsFrame.answerLink_goesOn (H : HoldsFrame s h p) (hv : s.cfg.valid = true) (F : FieldsSized s)
    (acc : Bool) : ∃ t, answerLink acc s = .next t := by
  unfold answerLink
  split
  · refine HoldsFrame.sendOrIdle_goesOn (h := h) (p := p) ?_ ?_ ?_ _ _
    exacts [H.congr rfl rfl rfl rfl, hv, ⟨F.pan, F.loc, F.rem⟩]
  · exact ⟨_, rfl⟩

theorem HoldsFrame.dispatchLinkOp_goesOn (H : HoldsFrame s h p) (hv : s.cfg.valid = true) (F : FieldsSized s) :
    ∃ t, dispatchLinkOp s = .next t := by
  unfold dispatchLinkOp
  rw [H.readHeader_eq, bindOutcome_next, H.readPayload_eq]
  split
  · exact ⟨_, rfl⟩
  · rw [bindOutcome_next]
    split
    · refine HoldsFrame.answerLink_goesOn (h := h) (p := p) ?_ ?_ ?_ _
      exacts [H.congr rfl rfl rfl rfl, hv, ⟨F.pan, F.loc, F.rem⟩]
    · exact H.answerLink_goesOn hv F _

theorem HoldsFrame.processFrame_goesOn (H : HoldsFrame s h p) (hv : s.cfg.valid = true) (F : FieldsSized s) :
    ∃ t, processFrame s = .next t := by
  cases hacc : validateOp s h with
  | some c => exact ⟨_, H.processFrame_rejected (.inl hacc)⟩
  | none =>
    cases ht : classifyCtl s.cfg h.ctl with
    | reserved => exact ⟨_, H.processFrame_rejected (.inr ⟨hacc, ht, rfl⟩)⟩
    | data => rw [H.processFrame_data hacc ht]; exact H.dispatchDataOp_goesOn hv F
    | linkReq => rw [H.processFrame_link hacc ht]; exact H.dispatchLinkOp_goesOn hv F

end Held

/-- A length inside the bounds is one that the length check passes, and so is the frame whole. -/
theorem rxCheckOp_eq_none {c : Config} {n : Nat} {ok : Bool} (h : rxCheckOp c n ok = none) :
    c.hdrLen ≤ n ∧ n ≤ c.maxFrame ∧ ok = true := by
  unfold rxCheckOp at h
  split at h
  · cases h
  · split at h
    · cases h
    · split at h
      · exact ⟨by omega, by omega, ‹_›⟩
      · cases h

/-- A listening node takes every envelope that can be taken apart. -/
theorem Midstep.receiveDone_goesOn (h : Midstep s) (hst : s.st = .listening) {env : Bytes} {e : Envelope}
    (he : parseEnvelope env = some e) : ∃ t, receiveDone env s = .next t := by
  rw [receiveDone_of_parse hst he]
  unfold checkFrame
  split
  · exact ⟨_, rfl⟩
  next hc =>
    obtain ⟨hlow, hhigh, -⟩ := rxCheckOp_eq_none hc
    have htag : (Machine.taken e s).fbtag = .rx := if_pos ⟨hlow, hhigh⟩
    have ht := h.taken he
    obtain ⟨hd, p, H⟩ := ht.holdsFrame (by simp [frameDefined, htag])
    exact H.processFrame_goesOn h.reg.cfg ht.reg.sized

/-- A frame in flight ends: its control byte can be read. -/
theorem Midstep.edgeTx_goesOn (h : Midstep s) (hst : s.st = .transmitting) : ∃ t, meaning .edgeTx s = .next t := by
  obtain ⟨hd, p, H⟩ := h.holdsFrame (by simp [frameDefined, h.sched.i4 hst])
  exact ⟨_, meaning_edgeTx hst H.readFbByte_ctl⟩

theorem sendResult_goesOn {ty : FrameType} {drq : Bool} {p : Bytes} (h : ∃ r, sendFrame ty drq p s = .next r) :
    ∃ t, sendResult ty drq p s = .next t := by
  obtain ⟨r, hr⟩ := h
  exact ⟨_, by rw [sendResult, hr, bindOutcome_next, ret_eq]⟩

theorem sends_ep_goesOn (h : Inv s) (hi : s.inited = true) (hr : s.cfg.role = .ep) (ty : FrameType) (drq : Bool)
    (p : Bytes) : ∃ r, sendFrame ty drq p s = .next r :=
  sendFrame_goesOn_of_dest h.cfg (h.sized hi) (buildDest_ep hr) ty drq p

end GoesOn

/-- The inputs that only an End Point has (60_exceptions R292). -/
theorem input_of_onlyRole_ep {i : Instr} (hin : i.isInput = true) (ho : onlyRole (admissionCode i) = some .ep) :
    i = .linkexists ∨ (∃ p r, i = .linkestablish p r) ∨ i = .linkdestroy ∨ i = .getlink ∨ i = .disconnect ∨
      ∃ p, i = .connect p ∨ i = .simpletransfer p ∨ i = .transfer p := by
  cases i with
  | linkexists | linkestablish | linkdestroy | getlink | disconnect | connect | simpletransfer | transfer => simp
  | validateEp | timeoutHandler => cases hin
  | _ => cases ho

/-- The inputs that only a Gateway has. -/
theorem input_of_onlyRole_gw {i : Instr} (hin : i.isInput = true) (ho : onlyRole (admissionCode i) = some .gw) :
    ∃ ptr n, i = .setdrsp ptr n ∨ i = .loaddataresponse ptr n := by
  cases i with
  | setdrsp | loaddataresponse => simp
  | validateGw => cases hin
  | _ => cases ho

/-- An input of an initialised node runs its meaning, unless it is the other role's. -/
theorem admitted_or_wrongRole {s : State} {i : Instr} (hi : s.inited = true) (hw : i.wellFormed s.cfg = true) :
    (inputRefusal s (admissionCode i) = none ∧ exec i s = meaning i s) ∨
      ∃ r, onlyRole (admissionCode i) = some r ∧ s.cfg.role ≠ r ∧ exec i s = .refused .uRole := by
  cases ho : onlyRole (admissionCode i) with
  | none => exact .inl ⟨inputRefusal_none_of_both hi ho, exec_of_both hi ho hw⟩
  | some r =>
    by_cases hr : s.cfg.role = r
    · exact .inl ⟨inputRefusal_none_of_role hi (hr ▸ ho), exec_of_role hi hr ho hw⟩
    · exact .inr ⟨r, rfl, hr, exec_wrongRole hi ho hr⟩

/-- Settles O53: an input that is not the other role's, operation by operation: it goes on, or what it reads is not
there. -/
theorem onlyTheContractRefuses : Obligations.OnlyTheContractRefuses := by
  intro s i h hi hin hw
  have hm := h.midstep hi
  obtain ⟨hadm, he⟩ | ⟨r, ho, hr, he⟩ := admitted_or_wrongRole hi hw
  case inr =>
    cases r with
    | ep =>
      have hgw : s.cfg.role = .gw := by cases hg : s.cfg.role <;> [exact absurd hg hr; rfl]
      exact .inr (.inr (.inl ⟨he, hgw, input_of_onlyRole_ep hin ho⟩))
    | gw =>
      have hep : s.cfg.role = .ep := by cases hg : s.cfg.role <;> [rfl; exact absurd hg hr]
      exact .inr (.inr (.inr (.inl ⟨he, hep, input_of_onlyRole_gw hin ho⟩)))
  rw [he]
  cases i with
  | isbcast | compare | busy | getpan | fBusy | tick | linkexists | linkestablish | linkdestroy | getlink | disconnect
  | setdrsp | loaddataresponse => exact .inl ⟨_, rfl⟩
  | listen => exact .inl (by rw [meaning]; split <;> exact ⟨_, rfl⟩)
  | init p a k l t =>
    exact .inr (.inl ⟨by rw [meaning, initialise_again hi, bindOutcome_refused], _, _, _, _, _, .inl rfl⟩)
  | fInit p a k l t =>
    exact .inr (.inl ⟨by rw [meaning, initialise_again hi, bindOutcome_refused], _, _, _, _, _, .inr rfl⟩)
  | send ty drq p =>
    cases hr : s.cfg.role with
    | ep => exact .inl (sendResult_goesOn (sends_ep_goesOn h hi hr ty drq p))
    | gw =>
      obtain hok | ⟨hno, htag⟩ := sendFrame_goesOn_gw h hi hr ty drq p
      · exact .inl (sendResult_goesOn hok)
      · have hno : meaning (.send ty drq p) s = .refused .uFbUndefined := by
          rw [meaning, sendResult, hno, bindOutcome_refused]
        exact .inr (.inr (.inr (.inr (.inr (.inr (.inr (.inr (.inl ⟨hno, rfl, htag, _, _, _, rfl⟩))))))))
  | simpletransfer p =>
    exact .inl (sendResult_goesOn (sends_ep_goesOn h hi (role_of_inputRefusal rfl hadm) _ _ p))
  | transfer p =>
    refine .inl ?_
    rw [meaning]
    split
    · exact sendResult_goesOn (sends_ep_goesOn h hi (role_of_inputRefusal rfl hadm) _ _ p)
    · exact ⟨_, rfl⟩
  | connect p =>
    refine .inl ?_
    rw [meaning]
    split
    · exact ⟨_, rfl⟩
    · obtain ⟨r, hr⟩ := sends_ep_goesOn h hi (role_of_inputRefusal rfl hadm) .linkReq true p
      exact ⟨_, by rw [hr, bindOutcome_next, ret_eq]⟩
  | getlastsrc =>
    cases hd : frameDefined s with
    | true =>
      obtain ⟨hdr, p, H⟩ := hm.holdsFrame hd
      exact .inl ⟨_, H.meaning_getlastsrc⟩
    | false =>
      exact .inr (.inr (.inr (.inr (.inr (.inr (.inr (.inl
        ⟨meaning_getlastsrc_undefined hd, .inl rfl, (frameDefined_eq_false_iff s).mp hd⟩)))))))
  | getlastseq =>
    cases hd : frameDefined s with
    | true =>
      obtain ⟨hdr, p, H⟩ := hm.holdsFrame hd
      exact .inl ⟨_, H.meaning_getlastseq⟩
    | false =>
      exact .inr (.inr (.inr (.inr (.inr (.inr (.inr (.inl
        ⟨meaning_getlastseq_undefined hd, .inr rfl, (frameDefined_eq_false_iff s).mp hd⟩)))))))
  | getrssi | getlqi | getcrc =>
    cases hl : s.lastV with
    | true => exact .inl ⟨_, readLatch_of_valid hl _⟩
    | false =>
      exact .inr (.inr (.inr (.inr (.inr (.inr (.inr (.inr (.inr ⟨readLatch_of_invalid hl _, by simp, rfl⟩))))))))
  | edgeTx =>
    by_cases hst : s.st = .transmitting
    · exact .inl (hm.edgeTx_goesOn hst)
    · exact .inr (.inr (.inr (.inr (.inl ⟨meaning_edgeTx_spurious hst, rfl, hst⟩))))
  | edgeRx env =>
    by_cases hst : s.st = .listening
    · cases hp : parseEnvelope env with
      | some e =>
        obtain ⟨t, ht⟩ := hm.receiveDone_goesOn hst hp
        exact .inl ⟨_, by rw [meaning, ht, bindOutcome_next, retStatus_eq]⟩
      | none =>
        refine .inr (.inr (.inr (.inr (.inr (.inr (.inl ⟨meaning_edgeRx_malformed hst hp, env, rfl, ?_⟩))))))
        intro n rest hn hl
        have := (parseEnvelope_isSome env).mpr ⟨n, rest, hn, hl⟩
        rw [hp] at this
        cases this
    · exact .inr (.inr (.inr (.inr (.inr (.inl ⟨meaning_edgeRx_spurious hst env, env, rfl, hst⟩)))))
  | _ => cases hin

/-- Before `INIT` the four operations that may come do not fault. -/
theorem exec_ne_fault_preinit {s : State} {i : Instr} (hi : s.inited = false) {r : Fault} : exec i s ≠ .fault r := by
  intro hf
  obtain ⟨hadm, hw, hf⟩ := exec_eq_fault.mp hf
  cases i with
  | isbcast | compare => cases hf
  | init pan addr k l tb | fInit pan addr k l tb =>
    simp only [Instr.wellFormed, Bool.and_eq_true, decide_eq_true_eq] at hw
    have hno : initialise pan addr k l tb s ≠ .fault r := by
      cases hr : s.cfg.role with
      | ep => rw [initialise_ep hi hr hw.1]; nofun
      | gw =>
        cases hb : isBcast s.cfg pan with
        | true => rw [initialise_gw_bcast hi hr hb]; nofun
        | false => rw [initialise_gw hi hr hw.1 hb]; nofun
    obtain hf | ⟨u, -, hf⟩ := bindOutcome_eq_fault.mp hf
    · exact hno hf
    · cases hf
  | _ => rw [inited_of_inputRefusal rfl hadm] at hi; cases hi

/-- With the invariant an input goes on or is refused. -/
theorem exec_ne_fault {s : State} {i : Instr} (h : Inv s) (hin : i.isInput = true) {r : Fault} :
    exec i s ≠ .fault r := by
  cases hi : s.inited with
  | false => exact exec_ne_fault_preinit hi
  | true =>
    intro hf
    obtain ⟨-, hw, -⟩ := exec_eq_fault.mp hf
    obtain ⟨t, he⟩ | ⟨he, -⟩ | ⟨he, -⟩ | ⟨he, -⟩ | ⟨he, -⟩ | ⟨he, -⟩ | ⟨he, -⟩ | ⟨he, -⟩ | ⟨he, -⟩ | ⟨he, -⟩ :=
      onlyTheContractRefuses s i h hi hin hw
    all_goals cases he.symm.trans hf

/-- Settles O52: a step that does not wait runs an input, or refuses its word. -/
theorem stepNeverFaults : Obligations.StepNeverFaults := by
  intro s r h hf
  obtain ⟨-, he⟩ | ⟨-, ⟨-, he⟩ | ⟨q, rest, hp, ⟨i, -, hin, he⟩ | ⟨e, he⟩⟩⟩ := step_cases s
  · cases he.symm.trans hf
  · cases he.symm.trans hf
  · exact exec_ne_fault (h.deliver hp) hin (he ▸ hf)
  · cases he.symm.trans hf

end Sys2Proof.Machine
end

section
/-! The transitions of `ST` (O58), by the state a step starts from. -/

namespace Sys2Proof.Machine

/-! ### Where the effects leave `ST` -/

theorem idled_st_gw {s : State} (hr : s.cfg.role = .gw) : (idled s).st = .listening := by rw [idled_gw hr]; rfl

theorem idled_st_ep {s : State} (hr : s.cfg.role = .ep) : (idled s).st = s.st := by rw [idled_ep hr]

theorem answered_st (s : State) (b : Bytes) :
    (answered s b).st = if s.phyAccept then .transmitting else s.st := by
  unfold answered; split <;> rfl

theorem txEnded_st (c : Byte) (s : State) :
    (txEnded c s).st = if s.cfg.role = .gw ∨ ctlDrq c = true then .listening else .idle := by
  cases hd : ctlDrq c with
  | true => rw [txEnded_request hd, if_pos (.inr rfl)]; rfl
  | false =>
    cases hr : s.cfg.role with
    | ep => rw [txEnded_ep hd hr, if_neg (by simp)]
    | gw => rw [txEnded_gw hd hr, if_pos (.inl rfl)]; exact idled_st_gw hr

/-- Processing leaves an End Point where the reception left it. -/
theorem Processed.st_ep {s t : State} (h : Processed s t) (hr : s.cfg.role = .ep) : t.st = s.st := by
  cases h with
  | rejected | told => exact idled_st_ep hr
  | linked _ _ => rw [idled_st_ep (by rwa [linked_cfg]), linked_st]
  | answered hg | unanswered hg => cases hr.symm.trans hg

/-- Processing leaves a Gateway listening, or transmitting an answer. -/
theorem Processed.st_gw {s t : State} (h : Processed s t) (hr : s.cfg.role = .gw) : t.st ≠ .idle := by
  cases h with
  | rejected | told => rw [idled_st_gw (by exact hr)]; decide
  | linked he => cases hr.symm.trans he
  | answered _ _ _ ht => rw [ht.transmitting rfl]; decide
  | unanswered _ _ _ ht =>
    have hrole := congrArg (fun x => x.cfg.role) ht.identity
    rw [idled_st_gw (hrole.trans hr)]
    decide

/-- A tick ends a receive exactly at the last count. -/
theorem tickOp_st (s : State) : (tickOp s).st =
    if s.cfg.role = .ep ∧ s.cfg.rxtoEn = true ∧ s.rxtoAct = true ∧ s.rxto = 1#16 then .idle else s.st := by
  have hp := timeoutPending_iff s
  cases ht : timeoutPending s with
  | false =>
    rw [tickOp_of_not_pending ht, if_neg]
    rintro ⟨hr, hen, hact, -⟩
    rw [hp.mpr ⟨hr, hen, hact⟩] at ht
    cases ht
  | true =>
    obtain ⟨hr, hen, hact⟩ := hp.mp ht
    by_cases h1 : s.rxto = 1#16
    · rw [tickOp_fires ht h1, timeoutOp_ep (by exact hr)]
      exact (if_pos ⟨hr, hen, hact, h1⟩).symm
    · rw [tickOp_counts ht h1, if_neg (fun h => h1 h.2.2.2)]

/-! ### From `Idle` -/

/-- The inputs that send the payload `p` (45_facade_and_status R242, R244, R245). -/
def SendsPayload (s : State) (i : Instr) (p : Bytes) : Prop :=
  (∃ ty drq, i = .send ty drq p) ∨ i = .simpletransfer p ∨ (i = .connect p ∧ ¬ LinkUp s) ∨ (i = .transfer p ∧ LinkUp s)

theorem Sends.payload {s : State} {i : Instr} {ty : FrameType} {drq : Bool} {p : Bytes} (h : Sends s i ty drq p) :
    i ≠ .listen ∧ ∀ q, SendsPayload s i q ↔ q = p := by
  cases h with
  | send => exact ⟨nofun, fun q => by simp [SendsPayload, eq_comm]⟩
  | simpletransfer => exact ⟨nofun, fun q => by simp [SendsPayload, eq_comm]⟩
  | connect _ _ hl => exact ⟨nofun, fun q => by simp [SendsPayload, hl, eq_comm]⟩
  | transfer _ _ hl => exact ⟨nofun, fun q => by simp [SendsPayload, hl, eq_comm]⟩

theorem Queries.sends_nothing {s : State} {i : Instr} (h : Queries s i) :
    i ≠ .listen ∧ ∀ q, ¬ SendsPayload s i q := by
  cases h with
  | connect _ hl => exact ⟨nofun, fun q => by simp [SendsPayload, hl]⟩
  | transfer _ hl => exact ⟨nofun, fun q => by simp [SendsPayload, hl]⟩
  | _ => exact ⟨nofun, fun q => by simp [SendsPayload]⟩

/-- How an input leaves an idle node: armed by `LISTEN`; sending, where an End Point's frame fits and is taken; else
idle. -/
theorem Ran.from_idle {s t : State} {i : Instr} (hr : Ran s i t) (h : Inv s) (hi : s.inited = true)
    (hst : s.st = .idle) :
    (i = .listen ∧ t.st = .listening) ∨
    (i ≠ .listen ∧ (∀ p, ¬ SendsPayload s i p) ∧ t.st = .idle) ∨
    ∃ p, (i ≠ .listen ∧ ∀ q, SendsPayload s i q ↔ q = p) ∧
      t.st = if s.cfg.role = .ep ∧ s.phyAccept = true ∧ p.length + s.cfg.hdrLen ≤ s.cfg.maxFrame then .transmitting
        else .idle := by
  have hsched := (h.midstep hi).sched
  have hfree : s.busy = false := Bool.eq_false_of_not_eq_true fun hb => hsched.i1.mp hb hst
  cases hr with
  | query hq => exact .inr (.inl ⟨hq.sends_nothing.1, hq.sends_nothing.2, hst⟩)
  | link => exact .inr (.inl ⟨nofun, fun q => by simp [SendsPayload], (linked_st ..).trans hst⟩)
  | unlink _ hu =>
    refine .inr (.inl ⟨?_, fun q => ?_, (unlinked_st _).trans hst⟩)
    all_goals obtain rfl | rfl := hu <;> simp [SendsPayload]
  | listenBusy hb => cases hfree.symm.trans hb
  | listen => exact .inl ⟨rfl, rfl⟩
  | @sent _ ty drq ok p r u hs hu =>
    refine .inr (.inr ⟨p, hs.payload, ?_⟩)
    cases hu with
    | contention hb => cases hfree.symm.trans hb
    | capacity _ hlong => rw [if_neg (fun hc => by omega)]; exact hst
    | handedOver hb hfit hdst hread =>
      have hep := buildDest_role h hi hb hdst
      refine (answered_st _ _).trans ?_
      simp only [hep, hfit, and_true, true_and]
      congr 1
  | staged hs =>
    refine .inr (.inl ⟨?_, fun q => ?_, hst⟩)
    all_goals obtain rfl | rfl := hs <;> simp [SendsPayload]
  | transmitted hst' => cases hst.symm.trans hst'
  | received hst' => cases hst.symm.trans hst'
  | ticked =>
    refine .inr (.inl ⟨nofun, fun q => by simp [SendsPayload], ?_⟩)
    rw [tickOp_of_not_pending (hsched.timeoutPending_eq_false (by rw [hst]; decide))]
    exact hst

/-! ### From `Listening` -/

/-- The Gateway's filter passes a frame of an End Point, to this Gateway or to all, on this network or on any. -/
theorem validateGwOp_eq_none_iff {s : State} {h : Header} : validateGwOp s h = none ↔
    h.ctl.getLsbD 0 = false ∧ (h.dst = s.localAddr ∨ ∀ b ∈ h.dst, b = s.cfg.bcast) ∧
      (h.pan = s.panid ∨ ∀ b ∈ h.pan, b = s.cfg.bcast) := by
  refine ⟨fun hv => ?_, fun ⟨hm, hd, hp⟩ => validateGwOp_eq_none hm hd hp⟩
  have hm : ctlMode h.ctl = false := by
    by_contra hm
    rw [validateGwOp_rMode (by simpa using hm)] at hv
    cases hv
  have hd : h.dst = s.localAddr ∨ isBcast s.cfg h.dst = true := by
    by_contra hd
    obtain ⟨hne, hb⟩ := not_or.mp hd
    rw [validateGwOp_rDest hm hne (by simpa using hb)] at hv
    cases hv
  rw [validateGwOp_of_dest hm hd] at hv
  refine ⟨hm, hd.imp_right (isBcast_iff_forall ..).mp, ?_⟩
  by_contra hp
  obtain ⟨hne, hb⟩ := not_or.mp hp
  rw [if_pos ⟨hne, (isBcast_false_iff_exists ..).mpr (by simpa using hb)⟩] at hv
  cases hv

section Answers

variable {s t : State} {h : Header} {p : Bytes}

/-- A Gateway that answers nothing listens again. -/
theorem st_of_silent {o : Res} {u : State} {ok ans : Prop} (ht : o = .next t) (he : o = .next (idled u))
    (hu : u.cfg.role = .gw) (hno : ¬ ans) : t.st = .transmitting ↔ ok ∧ ans := by
  cases ht.symm.trans he
  rw [idled_st_gw hu]
  exact iff_of_false nofun fun ha => hno ha.2

/-- A Gateway that answers transmits, if the Physical Bridge takes the answer. -/
theorem st_of_answer {o : Res} {u : State} {b : Bytes} {ok : Bool} {ans : Prop} (ht : o = .next t)
    (he : o = .next (if ok then answered u b else idled (answered u b))) (hu : u.cfg.role = .gw)
    (hok : u.phyAccept = ok) (hyes : ans) : t.st = .transmitting ↔ ok = true ∧ ans := by
  cases ht.symm.trans he
  subst hok
  cases hphy : u.phyAccept with
  | true => simp [answered_st, hphy, hyes]
  | false => simp [idled_st_gw (show (answered u b).cfg.role = .gw by rw [answered_cfg]; exact hu)]

/-- A held frame ends in an answer exactly where the Gateway answers it and the Physical Bridge takes the answer. -/
theorem HoldsFrame.answers_iff (H : HoldsFrame s h p) (hr : s.cfg.role = .gw) (hv : s.cfg.valid = true)
    (F : FieldsSized s) (hb : s.busy = false) (ht : processFrame s = .next t) :
    t.st = .transmitting ↔ s.phyAccept = true ∧ GatewayAnswers s h s.lrAccept := by
  obtain ⟨-, -, -, -, hl, -⟩ := (Config.valid_iff _).mp hv
  cases hacc : validateOp s h with
  | some c =>
    refine st_of_silent ht (H.processFrame_rejected (.inl hacc)) hr fun ⟨hm, hd, hp, _⟩ => ?_
    rw [validateOp_gw hr, validateGwOp_eq_none hm hd hp] at hacc
    cases hacc
  | none =>
    obtain ⟨hm, hd, hp⟩ := validateGwOp_eq_none_iff.mp ((validateOp_gw hr).symm.trans hacc)
    cases hclass : classifyCtl s.cfg h.ctl with
    | reserved =>
      refine st_of_silent ht (H.processFrame_rejected (.inr ⟨hacc, hclass, rfl⟩)) hr fun ⟨_, _, _, hty⟩ => ?_
      obtain ⟨h0, h1⟩ := classifyCtl_eq_reserved.mp hclass
      exact hty.elim (fun h => h0 h.1) fun h => h1 h.1
    | data =>
      have hty := classifyCtl_eq_data.mp hclass
      have hrun := H.processFrame_data hacc hclass
      have hnl : ctlType h.ctl ≠ s.cfg.linkreqCode := by rw [hty]; exact hl.symm
      by_cases hn : h.ctl.getLsbD 1 = false ∨ s.drspLen = 0#8
      · refine st_of_silent ht (hrun.trans (dispatchDataOp_gw H hr hn)) hr fun ⟨_, _, _, ha⟩ => ?_
        obtain ⟨_, hq, h0, _⟩ | ⟨hlink, _⟩ := ha
        · exact hn.elim (fun hn => by rw [hq] at hn; cases hn) h0
        · exact hnl hlink
      · obtain ⟨hq, h0⟩ := not_or.mp hn
        have hq : h.ctl.getLsbD 1 = true := by simpa using hq
        by_cases hfit : s.drspLen.toNat + s.cfg.hdrLen ≤ s.cfg.maxFrame
        · obtain ⟨q, m1, m, u, -, -, -, rfl, hgo⟩ := dispatchDataOp_turnaround H hr hv F hb hq h0 hfit
          exact st_of_answer ht (hrun.trans hgo) hr rfl ⟨hm, hd, hp, .inl ⟨hty, hq, h0, hfit⟩⟩
        · refine st_of_silent ht (hrun.trans (dispatchDataOp_tooLong H hr hb hq h0 (by omega))) hr fun ⟨_, _, _, ha⟩ => ?_
          exact ha.elim (fun ha => hfit ha.2.2.2) fun ha => hnl ha.1
    | linkReq =>
      obtain ⟨hty, -⟩ := classifyCtl_eq_linkReq.mp hclass
      have hrun := H.processFrame_link hacc hclass
      by_cases hok : s.lrcb = false ∨ s.lrAccept = true
      · obtain ⟨m, u, -, rfl, hgo⟩ := dispatchLinkOp_accepted H hr hv F hb hok
        exact st_of_answer ht (hrun.trans hgo) hr rfl ⟨hm, hd, hp, .inr ⟨hty, hok⟩⟩
      · obtain ⟨hc, ha⟩ := not_or.mp hok
        refine st_of_silent ht (hrun.trans (dispatchLinkOp_denied H hr (by simpa using hc) (by simpa using ha))) hr
          fun ⟨_, _, _, hans⟩ => ?_
        refine hans.elim (fun hdata => ?_) fun hlink => hok hlink.2
        exact hl (hty.symm.trans hdata.1)

end Answers

/-- The envelopes a listening Gateway answers, if the Physical Bridge takes the answer (43_scheduler_fsm R205). -/
def AnsweredEnvelope (s : State) (env : Bytes) (acc : Bool) : Prop :=
  ∃ h p rssi lq, env = envelopeOf h p rssi lq ∧ h.Fits s.cfg ∧ s.cfg.hdrLen + p.length ≤ s.cfg.maxFrame ∧
    128 ≤ lq.toNat ∧ GatewayAnswers s h acc

/-- A frame that passes the checks of length and CRC came in an envelope of a header and a payload. -/
theorem envelopeOf_of_parse {c : Config} {env : Bytes} {e : Envelope} (he : parseEnvelope env = some e)
    (hc : rxCheckOp c e.n (crcOkOf e.lq) = none) :
    ∃ h p, env = envelopeOf h p e.rssi e.lq ∧ h.Fits c ∧ c.hdrLen + p.length ≤ c.maxFrame ∧ 128 ≤ e.lq.toNat := by
  obtain ⟨hlow, hhigh, hcrc⟩ := rxCheckOp_eq_none hc
  obtain ⟨hlen, henv⟩ := parseEnvelope_spec he
  have hfr : c.hdrLen ≤ e.frame.length := hlen ▸ hlow
  refine ⟨parseHeader c e.frame, e.frame.drop c.hdrLen, ?_, parseHeader_fits hfr, ?_, ?_⟩
  · rw [envelopeOf, headerBytes_parseHeader hfr, hlen, henv]
  · rw [List.length_drop]; omega
  · simpa [crcOkOf_eq] using hcrc

/-- A listening Gateway transmits after `EDGE_RX` exactly an answer that is taken. -/
theorem receiveDone_answers_iff {s t : State} {env : Bytes} (hv : s.cfg.valid = true) (F : FieldsSized s)
    (hr : s.cfg.role = .gw) (ht : receiveDone env s = .next t) :
    t.st = .transmitting ↔ s.phyAccept = true ∧ AnsweredEnvelope s env s.lrAccept := by
  have hst := receiveDone_listening ht
  have held {h : Header} {p : Bytes} {rssi lq : Byte} (henv : env = envelopeOf h p rssi lq) (hf : h.Fits s.cfg)
      (hfit : s.cfg.hdrLen + p.length ≤ s.cfg.maxFrame) (hlq : 128 ≤ lq.toNat) :
      t.st = .transmitting ↔ s.phyAccept = true ∧ GatewayAnswers s h s.lrAccept := by
    subst henv
    rw [receiveDone_of_processFrame hv hst hf hfit hlq] at ht
    have H : HoldsFrame (filled s h p rssi lq) h p := holdsFrame_received hv hf hfit
    exact H.answers_iff hr hv F.filled rfl ht
  refine ⟨fun htx => ?_, fun ⟨hacc, h, p, rssi, lq, henv, hf, hfit, hlq, hans⟩ =>
    (held henv hf hfit hlq).mpr ⟨hacc, hans⟩⟩
  obtain ⟨-, e, he, -⟩ := receiveDone_cases ht
  cases hc : rxCheckOp s.cfg e.n (crcOkOf e.lq) with
  | some c =>
    rw [receiveDone_of_parse hst he, checkFrame, show (taken e s).cfg = s.cfg from rfl, hc] at ht
    simp only [rejectFrame, idlePolicy_eq] at ht
    cases ht
    rw [idled_st_gw (by exact hr)] at htx
    cases htx
  | none =>
    obtain ⟨h, p, henv, hf, hfit, hlq⟩ := envelopeOf_of_parse he hc
    obtain ⟨hacc, hans⟩ := (held henv hf hfit hlq).mp htx
    exact ⟨hacc, h, p, _, _, henv, hf, hfit, hlq, hans⟩

/-- How an input leaves a listening node: a reception ends it, or is answered by a Gateway; the last tick ends it;
else it goes on listening. -/
theorem Ran.from_listening {s t : State} {i : Instr} (hr : Ran s i t) (h : Inv s) (hi : s.inited = true)
    (hst : s.st = .listening) :
    (∃ env, i = .edgeRx env) ∨
    (i = .tick ∧ t.st =
      if s.cfg.role = .ep ∧ s.cfg.rxtoEn = true ∧ s.rxtoAct = true ∧ s.rxto = 1#16 then .idle else .listening) ∨
    ((∀ env, i ≠ .edgeRx env) ∧ i ≠ .tick ∧ t.st = .listening) := by
  have hsched := (h.midstep hi).sched
  have hbusy : s.busy = true := hsched.i1.mpr (by rw [hst]; decide)
  cases hr with
  | query hq => exact .inr (.inr ⟨fun _ he => (by subst he; cases hq), fun he => (by subst he; cases hq), hst⟩)
  | link => exact .inr (.inr ⟨nofun, nofun, (linked_st ..).trans hst⟩)
  | unlink _ hu =>
    refine .inr (.inr ⟨?_, ?_, (unlinked_st _).trans hst⟩)
    all_goals obtain rfl | rfl := hu <;> simp
  | listenBusy => exact .inr (.inr ⟨nofun, nofun, hst⟩)
  | listen hb => cases hbusy.symm.trans hb
  | sent hs hu =>
    refine .inr (.inr ⟨fun _ he => (by subst he; cases hs), fun he => (by subst he; cases hs), ?_⟩)
    cases hu with
    | contention => exact hst
    | capacity hb | handedOver hb => cases hbusy.symm.trans hb
  | staged hs =>
    refine .inr (.inr ⟨?_, ?_, hst⟩)
    all_goals obtain rfl | rfl := hs <;> simp
  | transmitted hst' => cases hst.symm.trans hst'
  | received => exact .inl ⟨_, rfl⟩
  | ticked => exact .inr (.inl ⟨rfl, hst ▸ tickOp_st s⟩)

/-! ### From `Transmitting` -/

/-- The control byte that is read is the one that says what was sent. -/
theorem sentRequest_iff {s : State} {c : Byte} (hc : readFbByte s s.cfg.offCtl = .next c) (d : Bool) :
    SentRequest s d ↔ ctlDrq c = d := by
  have hread : s.fb.read s.cfg.offCtl = some c := by
    obtain ⟨bs, hbs, he⟩ := bindOutcome_eq_next.mp hc
    obtain ⟨-, -, hb⟩ := readFb_eq_next.mp hbs
    obtain ⟨hlen, hget⟩ := (Memory.readBytes_eq_some ..).mp hb
    obtain ⟨b, rfl⟩ := List.length_eq_one_iff.mp hlen
    cases he
    exact hget 0 Nat.one_pos
  refine ⟨fun ⟨b, hb, hd⟩ => ?_, fun hd => ⟨c, hread, hd⟩⟩
  cases hread.symm.trans hb
  exact hd

/-- How an input leaves a transmitting node: only `EDGE_TX` ends the transmission. -/
theorem Ran.from_transmitting {s t : State} {i : Instr} (hr : Ran s i t) (h : Scheduled s)
    (hst : s.st = .transmitting) :
    (i ≠ .edgeTx ∧ t.st = .transmitting) ∨
    (i = .edgeTx ∧ ∃ d, (∀ b, SentRequest s b ↔ d = b) ∧
      t.st = if s.cfg.role = .gw ∨ d = true then .listening else .idle) := by
  by_cases hi : i = .edgeTx
  · subst hi
    cases hr with
    | transmitted _ hc => exact .inr ⟨rfl, _, sentRequest_iff hc, txEnded_st _ _⟩
    | query hq => cases hq
    | sent hs => cases hs
    | unlink _ hu => obtain hu | hu := hu <;> cases hu
    | staged hs => obtain hs | hs := hs <;> cases hs
  · have hkept := hr.inFlight h hst hi
    simp only [Machine.inFlight, Prod.mk.injEq] at hkept
    obtain ⟨-, -, -, hst', -⟩ := hkept
    exact .inl ⟨hi, hst'.trans hst⟩

/-! ### The table -/

/-- The state after `EDGE_RX` is the one its reception leaves. -/
theorem receiveDone_of_exec {s t : State} {env : Bytes} (h : exec (.edgeRx env) s = .next t) :
    ∃ u, receiveDone env s = .next u ∧ t.st = u.st := by
  obtain ⟨-, -, h⟩ := exec_eq_next.mp h
  obtain ⟨u, hu, h⟩ := bindOutcome_eq_next.mp h
  cases h
  exact ⟨u, hu, rfl⟩

/-- A listening node and `EDGE_RX`: an End Point is idle, a Gateway listens or transmits its answer. -/
theorem edgeRx_st {s t : State} {env : Bytes} (h : Inv s) (hi : s.inited = true)
    (he : exec (.edgeRx env) s = .next t) :
    (s.cfg.role = .ep ∧ t.st = .idle) ∨
    (s.cfg.role = .gw ∧ t.st ≠ .idle ∧
      (t.st = .transmitting ↔ s.phyAccept = true ∧ AnsweredEnvelope s env s.lrAccept)) := by
  obtain ⟨u, hu, hst⟩ := receiveDone_of_exec he
  obtain ⟨-, e, -, hproc⟩ := receiveDone_cases hu
  rw [hst]
  cases hr : s.cfg.role with
  | ep => exact .inl ⟨rfl, hproc.st_ep hr⟩
  | gw => exact .inr ⟨rfl, hproc.st_gw hr, receiveDone_answers_iff h.cfg (h.sized hi) hr hu⟩

section Rows

variable {s t : State} {i : Instr}

/-- The first row of the table, from `Idle`. -/
theorem idle_row (h : Inv s) (hi : s.inited = true) (hst : s.st = .idle) (hr : Ran s i t) :
    (t.st = .listening ↔ i = .listen) ∧
    (t.st = .transmitting ↔ s.cfg.role = .ep ∧ s.phyAccept = true ∧
      ∃ p, p.length + s.cfg.hdrLen ≤ s.cfg.maxFrame ∧ SendsPayload s i p) := by
  obtain ⟨rfl, ht⟩ | ⟨hl, hno, ht⟩ | ⟨p, ⟨hl, hp⟩, ht⟩ := hr.from_idle h hi hst
  · exact ⟨iff_of_true ht rfl, iff_of_false (by rw [ht]; decide) fun ⟨_, _, _, _, hs⟩ => by simp [SendsPayload] at hs⟩
  · exact ⟨iff_of_false (by rw [ht]; decide) hl, iff_of_false (by rw [ht]; decide) fun ⟨_, _, p, _, hs⟩ => hno p hs⟩
  · refine ⟨iff_of_false ?_ hl, ?_⟩
    · rw [ht]; split <;> decide
    · simp only [hp, exists_eq_right, ht]
      exact Ne.ite_eq_left_iff (by decide)

/-- The second row, from `Listening`. -/
theorem listening_row (h : Inv s) (hi : s.inited = true) (hst : s.st = .listening) (hin : i.isInput = true)
    (he : exec i s = .next t) :
    (t.st = .idle ↔ s.cfg.role = .ep ∧ ((∃ e, i = .edgeRx e) ∨
      (i = .tick ∧ s.cfg.rxtoEn = true ∧ s.rxtoAct = true ∧ s.rxto = 1#16))) ∧
    (t.st = .transmitting ↔ s.cfg.role = .gw ∧ s.phyAccept = true ∧
      ∃ env, i = .edgeRx env ∧ AnsweredEnvelope s env s.lrAccept) := by
  obtain ⟨env, rfl⟩ | ⟨rfl, ht⟩ | ⟨hrx, htick, ht⟩ := (ran_of_exec hi hin he).from_listening h hi hst
  · obtain ⟨hr, ht⟩ | ⟨hr, ht, hans⟩ := edgeRx_st h hi he
    · simp [ht, hr]
    · simp [ht, hr, hans]
  · refine ⟨?_, ?_⟩
    · rw [ht, Ne.ite_eq_left_iff (by decide)]
      simp
    · refine iff_of_false ?_ fun ⟨_, _, _, hrx, _⟩ => nomatch hrx
      rw [ht]; split <;> decide
  · simp [ht, hrx, htick]

/-- The third row, from `Transmitting`. -/
theorem transmitting_row (h : Scheduled s) (hst : s.st = .transmitting) (hr : Ran s i t) :
    (t.st = .idle ↔ i = .edgeTx ∧ s.cfg.role = .ep ∧ SentRequest s false) ∧
    (t.st = .listening ↔ i = .edgeTx ∧ (s.cfg.role = .gw ∨ SentRequest s true)) := by
  obtain ⟨hne, ht⟩ | ⟨rfl, d, hsent, ht⟩ := hr.from_transmitting h hst
  · simp [ht, hne]
  · rw [ht, Ne.ite_eq_left_iff (by decide), Ne.ite_eq_right_iff (by decide), hsent, hsent]
    cases s.cfg.role <;> simp

end Rows

/-- Settles O58: the three rows of the table; the delivery of the input changes nothing they read. -/
theorem stateTransitionsAreTheTable : Obligations.StateTransitionsAreTheTable := by
  intro s t r rest i h hi hp hd hs
  obtain ⟨i', hd', hin, he⟩ := step_eq_next_of_pending hp hs
  cases hd.symm.trans hd'
  have hu := h.deliver hp
  have hran := ran_of_exec (s := deliver r rest s) hi hin he
  refine ⟨fun hst => idle_row hu hi hst hran, fun hst => ?listening,
    fun hst => transmitting_row (s := deliver r rest s) (hu.midstep hi).sched hst hran⟩
  case listening =>
    obtain ⟨hidle, htx⟩ := listening_row hu hi hst hin he
    refine ⟨hidle, htx.trans (and_congr_right fun _ => and_congr_right fun _ => ?_)⟩
    constructor
    · rintro ⟨env, rfl, hdr, p, rssi, lq, rfl, hans⟩
      exact ⟨hdr, p, rssi, lq, rfl, hans⟩
    · rintro ⟨hdr, p, rssi, lq, rfl, hans⟩
      exact ⟨_, rfl, hdr, p, rssi, lq, rfl, hans⟩

end Sys2Proof.Machine
end
